-- ==== Sys2Proof/Word.lean ====
section
/-! DEFINITION. The word types of the block: bytes, codes, characters, the sample and the datapath number.
Bit 0 is the least significant bit throughout (R13). -/

namespace Sys2Proof

/-- One byte of a configuration port (R49). -/
abbrev Byte := BitVec 8

/-- The rolling code register and every raw code. `T <= 21` for every admitted framing, and "32 bits suffice"
(R35); the mask `MSB` is a 32-bit value (R193). Bits above `T - 1` of a code held by the block are 0. -/
abbrev RawCode := BitVec 32

/-- A data code as FRM.EXTRACT returns it: at most 8 bits (R196). -/
abbrev DataCode := BitVec 8

/-- A Unicode scalar value, 21 bits (R273). -/
abbrev Scalar := BitVec 21

/-- The 16-bit operand of a command word; the PCM sample of SAMPLE (R63, R81). -/
abbrev Sample := BitVec 16

/-- Ports 5 and 6: 8 bytes, the first character in byte 0, padded with 0x00 (R49). -/
abbrev PortText := Vector Byte 8

/-- A value of the datapath number format, the spec's `Num` (R15), as the number that encodes it in that format: under
IEEE 754 its bit pattern, 64 bits for the default binary64 (D1). The format and its arithmetic are a parameter (`NumFormat`,
R10), so no width is fixed here. -/
structure Number where
  code : Nat
deriving DecidableEq, Repr, Inhabited

end Sys2Proof
end

