-- ==== Sys2Proof/Syntax.lean ====
section
/-! DEFINITION. The instructions of the block: host command words, received frames, code words, and the internal
operations these invoke (R80). One constructor per row of the opcode table. -/

namespace Sys2Proof

/-- The three filter sections (R22). -/
inductive SectionName where
  | mark | space | lp
deriving DecidableEq, Repr

/-- The kinds of a filter section (R112). -/
inductive SectionKind where
  | bandpass | lowpass
deriving DecidableEq, Repr

/-- A resonance `Q`. `LP_Q = 1/sqrt(2)` is no rational (R10), so a resonance is an exact rational or the positive
square root of one, where R112 lets it be any real (DESIGN CHOICE, log 8). -/
inductive Resonance where
  | rational (q : Rat)
  | sqrtOf (q : Rat)
deriving DecidableEq, Repr

/-- `Q > 0`. -/
def Resonance.isPos : Resonance → Bool
  | .rational q => decide (0 < q)
  | .sqrtOf q => decide (0 < q)

/-- The five coefficients of a section (R23). -/
structure Coeffs where
  b0 : Number
  b1 : Number
  b2 : Number
  a1 : Number
  a2 : Number
deriving DecidableEq, Repr, Inhabited

/-- The data widths the grammar admits: 5, 7 or 8 (R190). -/
inductive DataBits where
  | five | seven | eight
deriving DecidableEq, Repr

/-- The stop intervals the grammar admits: 1, 1.5 or 2 (R190). -/
inductive StopBits where
  | one | oneAndHalf | two
deriving DecidableEq, Repr

/-- A framing specification that matches the grammar (R190). -/
inductive FramingSpec where
  | async (data : DataBits) (stop : StopBits) (efr : Bool)
  | fourOfSeven
deriving DecidableEq, Repr

/-- An instruction (R80, R82, R89, R90, R91, R92, R100). -/
inductive Instr where
  /-- `NOP` (R260). -/
  | nop (imm : Sample)
  /-- `CONSTRUCT` (R262). -/
  | construct (imm : Sample)
  /-- `START` (R267). -/
  | start (imm : Sample)
  /-- `STOP` (R271). -/
  | stop (imm : Sample)
  /-- `RESET` (R268). -/
  | reset (imm : Sample)
  /-- `SAMPLE` (R269). -/
  | sample (imm : Sample)
  /-- `op = 0x6`, reserved (R83). -/
  | reservedOp6 (imm : Sample)
  /-- `op = 0x7`, reserved (R83). -/
  | reservedOp7 (imm : Sample)
  /-- `op = 0x8`, reserved (R83). -/
  | reservedOp8 (imm : Sample)
  /-- `op = 0x9`, reserved (R83). -/
  | reservedOp9 (imm : Sample)
  /-- `op = 0xA`, reserved (R83). -/
  | reservedOpA (imm : Sample)
  /-- `op = 0xB`, reserved (R83). -/
  | reservedOpB (imm : Sample)
  /-- `op = 0xC`, reserved (R83). -/
  | reservedOpC (imm : Sample)
  /-- `op = 0xD`, reserved (R83). -/
  | reservedOpD (imm : Sample)
  /-- `op = 0xE`, reserved (R83). -/
  | reservedOpE (imm : Sample)
  /-- `op = 0xF`, reserved (R83). -/
  | reservedOpF (imm : Sample)
  /-- Framing `5N1`, pattern `1edcba0` (R89). -/
  | frame5N1 (data : BitVec 5)
  /-- Framing `5N1EFR`, pattern `1edcba0` (R89). -/
  | frame5N1Efr (data : BitVec 5)
  /-- Framing `5N2`, pattern `11edcba0` (R89). -/
  | frame5N2 (data : BitVec 5)
  /-- Framing `5N2EFR`, pattern `11edcba0` (R89). -/
  | frame5N2Efr (data : BitVec 5)
  /-- Framing `5N1.5`, pattern `111eeddccbbaa00` (R89). -/
  | frame5N15 (data : BitVec 5)
  /-- Framing `5N1.5EFR`, pattern `111eeddccbbaa00` (R89). -/
  | frame5N15Efr (data : BitVec 5)
  /-- Framing `7N1`, pattern `1gfedcba0` (R89). -/
  | frame7N1 (data : BitVec 7)
  /-- Framing `7N1EFR`, pattern `1gfedcba0` (R89). -/
  | frame7N1Efr (data : BitVec 7)
  /-- Framing `7N2`, pattern `11gfedcba0` (R89). -/
  | frame7N2 (data : BitVec 7)
  /-- Framing `7N2EFR`, pattern `11gfedcba0` (R89). -/
  | frame7N2Efr (data : BitVec 7)
  /-- Framing `7N1.5`, pattern `111ggffeeddccbbaa00` (R89). -/
  | frame7N15 (data : BitVec 7)
  /-- Framing `7N1.5EFR`, pattern `111ggffeeddccbbaa00` (R89). -/
  | frame7N15Efr (data : BitVec 7)
  /-- Framing `8N1`, pattern `1hgfedcba0` (R89). -/
  | frame8N1 (data : BitVec 8)
  /-- Framing `8N1EFR`, pattern `1hgfedcba0` (R89). -/
  | frame8N1Efr (data : BitVec 8)
  /-- Framing `8N2`, pattern `11hgfedcba0` (R89). -/
  | frame8N2 (data : BitVec 8)
  /-- Framing `8N2EFR`, pattern `11hgfedcba0` (R89). -/
  | frame8N2Efr (data : BitVec 8)
  /-- Framing `8N1.5`, pattern `111hhggffeeddccbbaa00` (R89). -/
  | frame8N15 (data : BitVec 8)
  /-- Framing `8N1.5EFR`, pattern `111hhggffeeddccbbaa00` (R89). -/
  | frame8N15Efr (data : BitVec 8)
  /-- Framing `4/7`, pattern `gfedcba` (R88, R89). -/
  | frame4of7 (data : BitVec 7)
  /-- 5-bit code 0x00 (R233, R236). -/
  | ita2Code00
  /-- 5-bit code 0x01 (R233, R236). -/
  | ita2Code01
  /-- 5-bit code 0x02 (R233, R236). -/
  | ita2Code02
  /-- 5-bit code 0x03 (R233, R236). -/
  | ita2Code03
  /-- 5-bit code 0x04 (R233, R236). -/
  | ita2Code04
  /-- 5-bit code 0x05 (R233, R236). -/
  | ita2Code05
  /-- 5-bit code 0x06 (R233, R236). -/
  | ita2Code06
  /-- 5-bit code 0x07 (R233, R236). -/
  | ita2Code07
  /-- 5-bit code 0x08 (R233, R236). -/
  | ita2Code08
  /-- 5-bit code 0x09 (R233, R236). -/
  | ita2Code09
  /-- 5-bit code 0x0A (R233, R236). -/
  | ita2Code0A
  /-- 5-bit code 0x0B (R233, R236). -/
  | ita2Code0B
  /-- 5-bit code 0x0C (R233, R236). -/
  | ita2Code0C
  /-- 5-bit code 0x0D (R233, R236). -/
  | ita2Code0D
  /-- 5-bit code 0x0E (R233, R236). -/
  | ita2Code0E
  /-- 5-bit code 0x0F (R233, R236). -/
  | ita2Code0F
  /-- 5-bit code 0x10 (R233, R236). -/
  | ita2Code10
  /-- 5-bit code 0x11 (R233, R236). -/
  | ita2Code11
  /-- 5-bit code 0x12 (R233, R236). -/
  | ita2Code12
  /-- 5-bit code 0x13 (R233, R236). -/
  | ita2Code13
  /-- 5-bit code 0x14 (R233, R236). -/
  | ita2Code14
  /-- 5-bit code 0x15 (R233, R236). -/
  | ita2Code15
  /-- 5-bit code 0x16 (R233, R236). -/
  | ita2Code16
  /-- 5-bit code 0x17 (R233, R236). -/
  | ita2Code17
  /-- 5-bit code 0x18 (R233, R236). -/
  | ita2Code18
  /-- 5-bit code 0x19 (R233, R236). -/
  | ita2Code19
  /-- 5-bit code 0x1A (R233, R236). -/
  | ita2Code1A
  /-- 5-bit code 0x1B (R233, R236). -/
  | ita2Code1B
  /-- 5-bit code 0x1C (R233, R236). -/
  | ita2Code1C
  /-- 5-bit code 0x1D (R233, R236). -/
  | ita2Code1D
  /-- 5-bit code 0x1E (R233, R236). -/
  | ita2Code1E
  /-- 5-bit code 0x1F (R233, R236). -/
  | ita2Code1F
  /-- 7-bit code 0x00 (R214). -/
  | fecCode00
  /-- 7-bit code 0x01 (R214). -/
  | fecCode01
  /-- 7-bit code 0x02 (R214). -/
  | fecCode02
  /-- 7-bit code 0x03 (R214). -/
  | fecCode03
  /-- 7-bit code 0x04 (R214). -/
  | fecCode04
  /-- 7-bit code 0x05 (R214). -/
  | fecCode05
  /-- 7-bit code 0x06 (R214). -/
  | fecCode06
  /-- 7-bit code 0x07 (R214). -/
  | fecCode07
  /-- 7-bit code 0x08 (R214). -/
  | fecCode08
  /-- 7-bit code 0x09 (R214). -/
  | fecCode09
  /-- 7-bit code 0x0A (R214). -/
  | fecCode0A
  /-- 7-bit code 0x0B (R214). -/
  | fecCode0B
  /-- 7-bit code 0x0C (R214). -/
  | fecCode0C
  /-- 7-bit code 0x0D (R214). -/
  | fecCode0D
  /-- 7-bit code 0x0E (R214). -/
  | fecCode0E
  /-- 7-bit code 0x0F (R215). -/
  | fecCode0F
  /-- 7-bit code 0x10 (R214). -/
  | fecCode10
  /-- 7-bit code 0x11 (R214). -/
  | fecCode11
  /-- 7-bit code 0x12 (R214). -/
  | fecCode12
  /-- 7-bit code 0x13 (R214). -/
  | fecCode13
  /-- 7-bit code 0x14 (R214). -/
  | fecCode14
  /-- 7-bit code 0x15 (R214). -/
  | fecCode15
  /-- 7-bit code 0x16 (R214). -/
  | fecCode16
  /-- 7-bit code 0x17 (R215). -/
  | fecCode17
  /-- 7-bit code 0x18 (R214). -/
  | fecCode18
  /-- 7-bit code 0x19 (R214). -/
  | fecCode19
  /-- 7-bit code 0x1A (R214). -/
  | fecCode1A
  /-- 7-bit code 0x1B (R215). -/
  | fecCode1B
  /-- 7-bit code 0x1C (R214). -/
  | fecCode1C
  /-- 7-bit code 0x1D (R215). -/
  | fecCode1D
  /-- 7-bit code 0x1E (R215). -/
  | fecCode1E
  /-- 7-bit code 0x1F (R214). -/
  | fecCode1F
  /-- 7-bit code 0x20 (R214). -/
  | fecCode20
  /-- 7-bit code 0x21 (R214). -/
  | fecCode21
  /-- 7-bit code 0x22 (R214). -/
  | fecCode22
  /-- 7-bit code 0x23 (R214). -/
  | fecCode23
  /-- 7-bit code 0x24 (R214). -/
  | fecCode24
  /-- 7-bit code 0x25 (R214). -/
  | fecCode25
  /-- 7-bit code 0x26 (R214). -/
  | fecCode26
  /-- 7-bit code 0x27 (R215). -/
  | fecCode27
  /-- 7-bit code 0x28 (R214). -/
  | fecCode28
  /-- 7-bit code 0x29 (R214). -/
  | fecCode29
  /-- 7-bit code 0x2A (R214). -/
  | fecCode2A
  /-- 7-bit code 0x2B (R215). -/
  | fecCode2B
  /-- 7-bit code 0x2C (R214). -/
  | fecCode2C
  /-- 7-bit code 0x2D (R215). -/
  | fecCode2D
  /-- 7-bit code 0x2E (R215). -/
  | fecCode2E
  /-- 7-bit code 0x2F (R214). -/
  | fecCode2F
  /-- 7-bit code 0x30 (R214). -/
  | fecCode30
  /-- 7-bit code 0x31 (R214). -/
  | fecCode31
  /-- 7-bit code 0x32 (R214). -/
  | fecCode32
  /-- 7-bit code 0x33 (R215). -/
  | fecCode33
  /-- 7-bit code 0x34 (R214). -/
  | fecCode34
  /-- 7-bit code 0x35 (R215). -/
  | fecCode35
  /-- 7-bit code 0x36 (R215). -/
  | fecCode36
  /-- 7-bit code 0x37 (R214). -/
  | fecCode37
  /-- 7-bit code 0x38 (R214). -/
  | fecCode38
  /-- 7-bit code 0x39 (R215). -/
  | fecCode39
  /-- 7-bit code 0x3A (R215). -/
  | fecCode3A
  /-- 7-bit code 0x3B (R214). -/
  | fecCode3B
  /-- 7-bit code 0x3C (R215). -/
  | fecCode3C
  /-- 7-bit code 0x3D (R214). -/
  | fecCode3D
  /-- 7-bit code 0x3E (R214). -/
  | fecCode3E
  /-- 7-bit code 0x3F (R214). -/
  | fecCode3F
  /-- 7-bit code 0x40 (R214). -/
  | fecCode40
  /-- 7-bit code 0x41 (R214). -/
  | fecCode41
  /-- 7-bit code 0x42 (R214). -/
  | fecCode42
  /-- 7-bit code 0x43 (R214). -/
  | fecCode43
  /-- 7-bit code 0x44 (R214). -/
  | fecCode44
  /-- 7-bit code 0x45 (R214). -/
  | fecCode45
  /-- 7-bit code 0x46 (R214). -/
  | fecCode46
  /-- 7-bit code 0x47 (R215). -/
  | fecCode47
  /-- 7-bit code 0x48 (R214). -/
  | fecCode48
  /-- 7-bit code 0x49 (R214). -/
  | fecCode49
  /-- 7-bit code 0x4A (R214). -/
  | fecCode4A
  /-- 7-bit code 0x4B (R215). -/
  | fecCode4B
  /-- 7-bit code 0x4C (R214). -/
  | fecCode4C
  /-- 7-bit code 0x4D (R215). -/
  | fecCode4D
  /-- 7-bit code 0x4E (R215). -/
  | fecCode4E
  /-- 7-bit code 0x4F (R214). -/
  | fecCode4F
  /-- 7-bit code 0x50 (R214). -/
  | fecCode50
  /-- 7-bit code 0x51 (R214). -/
  | fecCode51
  /-- 7-bit code 0x52 (R214). -/
  | fecCode52
  /-- 7-bit code 0x53 (R215). -/
  | fecCode53
  /-- 7-bit code 0x54 (R214). -/
  | fecCode54
  /-- 7-bit code 0x55 (R215). -/
  | fecCode55
  /-- 7-bit code 0x56 (R215). -/
  | fecCode56
  /-- 7-bit code 0x57 (R214). -/
  | fecCode57
  /-- 7-bit code 0x58 (R214). -/
  | fecCode58
  /-- 7-bit code 0x59 (R215). -/
  | fecCode59
  /-- 7-bit code 0x5A (R215). -/
  | fecCode5A
  /-- 7-bit code 0x5B (R214). -/
  | fecCode5B
  /-- 7-bit code 0x5C (R215). -/
  | fecCode5C
  /-- 7-bit code 0x5D (R214). -/
  | fecCode5D
  /-- 7-bit code 0x5E (R214). -/
  | fecCode5E
  /-- 7-bit code 0x5F (R214). -/
  | fecCode5F
  /-- 7-bit code 0x60 (R214). -/
  | fecCode60
  /-- 7-bit code 0x61 (R214). -/
  | fecCode61
  /-- 7-bit code 0x62 (R214). -/
  | fecCode62
  /-- 7-bit code 0x63 (R215). -/
  | fecCode63
  /-- 7-bit code 0x64 (R214). -/
  | fecCode64
  /-- 7-bit code 0x65 (R215). -/
  | fecCode65
  /-- 7-bit code 0x66 (R215). -/
  | fecCode66
  /-- 7-bit code 0x67 (R214). -/
  | fecCode67
  /-- 7-bit code 0x68 (R214). -/
  | fecCode68
  /-- 7-bit code 0x69 (R215). -/
  | fecCode69
  /-- 7-bit code 0x6A (R215). -/
  | fecCode6A
  /-- 7-bit code 0x6B (R214). -/
  | fecCode6B
  /-- 7-bit code 0x6C (R215). -/
  | fecCode6C
  /-- 7-bit code 0x6D (R214). -/
  | fecCode6D
  /-- 7-bit code 0x6E (R214). -/
  | fecCode6E
  /-- 7-bit code 0x6F (R214). -/
  | fecCode6F
  /-- 7-bit code 0x70 (R214). -/
  | fecCode70
  /-- 7-bit code 0x71 (R215). -/
  | fecCode71
  /-- 7-bit code 0x72 (R215). -/
  | fecCode72
  /-- 7-bit code 0x73 (R214). -/
  | fecCode73
  /-- 7-bit code 0x74 (R215). -/
  | fecCode74
  /-- 7-bit code 0x75 (R214). -/
  | fecCode75
  /-- 7-bit code 0x76 (R214). -/
  | fecCode76
  /-- 7-bit code 0x77 (R214). -/
  | fecCode77
  /-- 7-bit code 0x78 (R215). -/
  | fecCode78
  /-- 7-bit code 0x79 (R214). -/
  | fecCode79
  /-- 7-bit code 0x7A (R214). -/
  | fecCode7A
  /-- 7-bit code 0x7B (R214). -/
  | fecCode7B
  /-- 7-bit code 0x7C (R214). -/
  | fecCode7C
  /-- 7-bit code 0x7D (R214). -/
  | fecCode7D
  /-- 7-bit code 0x7E (R214). -/
  | fecCode7E
  /-- 7-bit code 0x7F (R214). -/
  | fecCode7F
  /-- 7-bit ASCII code word (R252). -/
  | asciiCode7 (code : BitVec 7)
  /-- 8-bit ASCII code word (R252). -/
  | asciiCode8 (code : BitVec 8)
  /-- `FILT.CFG` (R112). R112 lets `targetFreq` and `Q` be rationals or reals; here `targetFreq` is a rational and `Q` a
  rational or the square root of one (DESIGN CHOICE, log 8). -/
  | filtCfg (f : SectionName) (kind : SectionKind) (targetFreq : Rat) (sampleRate : Nat) (q : Resonance)
  /-- `FILT.RST` (R115). -/
  | filtRst (f : SectionName)
  /-- `FILT.RUN` (R116). -/
  | filtRun (f : SectionName) (x : Number)
  /-- `BITX.LEVEL` (R130). -/
  | bitxLevel (sample : Sample)
  /-- `BITX.ACC` (R135). -/
  | bitxAcc
  /-- `BITX.ZC` (R137). -/
  | bitxZc
  /-- `BITX.CORR` (R139). -/
  | bitxCorr
  /-- `BITX.DUMP` (R142). -/
  | bitxDump
  /-- `SYNC.SQL` (R160). -/
  | syncSql (signalPresent : Bool)
  /-- `SYNC.BIT` (R163). -/
  | syncBit (bit : Bool)
  /-- `FRM.PARSE` (R191). -/
  | frmParse (spec : PortText)
  /-- `FRM.CHECK` (R194). -/
  | frmCheck (code : RawCode)
  /-- `FRM.CHECK__doubled` (R195). -/
  | frmCheckDoubled (code : RawCode)
  /-- `FRM.EXTRACT` (R196). -/
  | frmExtract (code : RawCode)
  /-- `DEC.CHECK` (R197). -/
  | decCheck (code : RawCode)
  /-- `DEC.CHAR` (R198). -/
  | decChar (code : RawCode)
  /-- `DEC.RST` (R199). -/
  | decRst
  /-- `FEC.CHECK` (R211). -/
  | fecCheck (d : BitVec 7)
  /-- `FEC.CHAR` (R214). -/
  | fecChar (d : BitVec 7)
  /-- `FEC.RST` (R216). -/
  | fecRst
  /-- `ITA2.CHECK` (R231). -/
  | ita2Check (d : BitVec 5)
  /-- `ITA2.CHAR` (R233). -/
  | ita2Char (d : BitVec 5)
  /-- `ITA2.RST` (R235). -/
  | ita2Rst
  /-- `ASC.CHECK` (R251). -/
  | ascCheck (d : DataCode)
  /-- `ASC.CHAR` (R252). -/
  | ascChar (d : DataCode)
  /-- `ASC.RST` (R253). -/
  | ascRst
  /-- `GETNBITS` (R193). -/
  | getNBits
  /-- `GETMSB` (R193). -/
  | getMsb
  /-- `SAMPLE_STEP` (R270). -/
  | sampleStep (sample : Sample)
deriving DecidableEq, Repr

end Sys2Proof
end

