-- ==== Sys2Proof/WellFormed.lean ====
section
/-! DEFINITION. Which instruction terms are well formed. Operand widths are types; what is left are the raw codes,
at most 21 bits (R35, R192), and the domain of FILT.CFG (R8, R113). -/

namespace Sys2Proof

/-- A raw code of a framing this block admits: `T <= 21` (R35). -/
def rawCodeFits (code : RawCode) : Bool := code.toNat < 2 ^ 21

/-- The arguments FILT.CFG may be called with: the sample rate of R8 and the domain of the default `COEF`,
`0 < targetFreq < sampleRate/2` and `Q > 0` (R113). -/
def filtCfgInDomain (targetFreq : Rat) (sampleRate : Nat) (q : Resonance) : Bool :=
  decide (1000 ≤ sampleRate) && decide (0 < targetFreq) && decide (targetFreq < sampleRate / 2) && q.isPos

/-- The well-formedness of an instruction term. -/
def Instr.wellFormed : Instr → Bool
  | .nop _ => true
  | .construct _ => true
  | .start _ => true
  | .stop _ => true
  | .reset _ => true
  | .sample _ => true
  | .reservedOp6 _ => true
  | .reservedOp7 _ => true
  | .reservedOp8 _ => true
  | .reservedOp9 _ => true
  | .reservedOpA _ => true
  | .reservedOpB _ => true
  | .reservedOpC _ => true
  | .reservedOpD _ => true
  | .reservedOpE _ => true
  | .reservedOpF _ => true
  | .frame5N1 _ => true
  | .frame5N1Efr _ => true
  | .frame5N2 _ => true
  | .frame5N2Efr _ => true
  | .frame5N15 _ => true
  | .frame5N15Efr _ => true
  | .frame7N1 _ => true
  | .frame7N1Efr _ => true
  | .frame7N2 _ => true
  | .frame7N2Efr _ => true
  | .frame7N15 _ => true
  | .frame7N15Efr _ => true
  | .frame8N1 _ => true
  | .frame8N1Efr _ => true
  | .frame8N2 _ => true
  | .frame8N2Efr _ => true
  | .frame8N15 _ => true
  | .frame8N15Efr _ => true
  | .frame4of7 _ => true
  | .ita2Code00 => true
  | .ita2Code01 => true
  | .ita2Code02 => true
  | .ita2Code03 => true
  | .ita2Code04 => true
  | .ita2Code05 => true
  | .ita2Code06 => true
  | .ita2Code07 => true
  | .ita2Code08 => true
  | .ita2Code09 => true
  | .ita2Code0A => true
  | .ita2Code0B => true
  | .ita2Code0C => true
  | .ita2Code0D => true
  | .ita2Code0E => true
  | .ita2Code0F => true
  | .ita2Code10 => true
  | .ita2Code11 => true
  | .ita2Code12 => true
  | .ita2Code13 => true
  | .ita2Code14 => true
  | .ita2Code15 => true
  | .ita2Code16 => true
  | .ita2Code17 => true
  | .ita2Code18 => true
  | .ita2Code19 => true
  | .ita2Code1A => true
  | .ita2Code1B => true
  | .ita2Code1C => true
  | .ita2Code1D => true
  | .ita2Code1E => true
  | .ita2Code1F => true
  | .fecCode00 => true
  | .fecCode01 => true
  | .fecCode02 => true
  | .fecCode03 => true
  | .fecCode04 => true
  | .fecCode05 => true
  | .fecCode06 => true
  | .fecCode07 => true
  | .fecCode08 => true
  | .fecCode09 => true
  | .fecCode0A => true
  | .fecCode0B => true
  | .fecCode0C => true
  | .fecCode0D => true
  | .fecCode0E => true
  | .fecCode0F => true
  | .fecCode10 => true
  | .fecCode11 => true
  | .fecCode12 => true
  | .fecCode13 => true
  | .fecCode14 => true
  | .fecCode15 => true
  | .fecCode16 => true
  | .fecCode17 => true
  | .fecCode18 => true
  | .fecCode19 => true
  | .fecCode1A => true
  | .fecCode1B => true
  | .fecCode1C => true
  | .fecCode1D => true
  | .fecCode1E => true
  | .fecCode1F => true
  | .fecCode20 => true
  | .fecCode21 => true
  | .fecCode22 => true
  | .fecCode23 => true
  | .fecCode24 => true
  | .fecCode25 => true
  | .fecCode26 => true
  | .fecCode27 => true
  | .fecCode28 => true
  | .fecCode29 => true
  | .fecCode2A => true
  | .fecCode2B => true
  | .fecCode2C => true
  | .fecCode2D => true
  | .fecCode2E => true
  | .fecCode2F => true
  | .fecCode30 => true
  | .fecCode31 => true
  | .fecCode32 => true
  | .fecCode33 => true
  | .fecCode34 => true
  | .fecCode35 => true
  | .fecCode36 => true
  | .fecCode37 => true
  | .fecCode38 => true
  | .fecCode39 => true
  | .fecCode3A => true
  | .fecCode3B => true
  | .fecCode3C => true
  | .fecCode3D => true
  | .fecCode3E => true
  | .fecCode3F => true
  | .fecCode40 => true
  | .fecCode41 => true
  | .fecCode42 => true
  | .fecCode43 => true
  | .fecCode44 => true
  | .fecCode45 => true
  | .fecCode46 => true
  | .fecCode47 => true
  | .fecCode48 => true
  | .fecCode49 => true
  | .fecCode4A => true
  | .fecCode4B => true
  | .fecCode4C => true
  | .fecCode4D => true
  | .fecCode4E => true
  | .fecCode4F => true
  | .fecCode50 => true
  | .fecCode51 => true
  | .fecCode52 => true
  | .fecCode53 => true
  | .fecCode54 => true
  | .fecCode55 => true
  | .fecCode56 => true
  | .fecCode57 => true
  | .fecCode58 => true
  | .fecCode59 => true
  | .fecCode5A => true
  | .fecCode5B => true
  | .fecCode5C => true
  | .fecCode5D => true
  | .fecCode5E => true
  | .fecCode5F => true
  | .fecCode60 => true
  | .fecCode61 => true
  | .fecCode62 => true
  | .fecCode63 => true
  | .fecCode64 => true
  | .fecCode65 => true
  | .fecCode66 => true
  | .fecCode67 => true
  | .fecCode68 => true
  | .fecCode69 => true
  | .fecCode6A => true
  | .fecCode6B => true
  | .fecCode6C => true
  | .fecCode6D => true
  | .fecCode6E => true
  | .fecCode6F => true
  | .fecCode70 => true
  | .fecCode71 => true
  | .fecCode72 => true
  | .fecCode73 => true
  | .fecCode74 => true
  | .fecCode75 => true
  | .fecCode76 => true
  | .fecCode77 => true
  | .fecCode78 => true
  | .fecCode79 => true
  | .fecCode7A => true
  | .fecCode7B => true
  | .fecCode7C => true
  | .fecCode7D => true
  | .fecCode7E => true
  | .fecCode7F => true
  | .asciiCode7 _ => true
  | .asciiCode8 _ => true
  | .filtCfg _ _ targetFreq sampleRate q => filtCfgInDomain targetFreq sampleRate q
  | .filtRst _ => true
  | .filtRun _ _ => true
  | .bitxLevel _ => true
  | .bitxAcc => true
  | .bitxZc => true
  | .bitxCorr => true
  | .bitxDump => true
  | .syncSql _ => true
  | .syncBit _ => true
  | .frmParse _ => true
  | .frmCheck code => rawCodeFits code
  | .frmCheckDoubled code => rawCodeFits code
  | .frmExtract code => rawCodeFits code
  | .decCheck code => rawCodeFits code
  | .decChar code => rawCodeFits code
  | .decRst => true
  | .fecCheck _ => true
  | .fecChar _ => true
  | .fecRst => true
  | .ita2Check _ => true
  | .ita2Char _ => true
  | .ita2Rst => true
  | .ascCheck _ => true
  | .ascChar _ => true
  | .ascRst => true
  | .getNBits => true
  | .getMsb => true
  | .sampleStep _ => true

end Sys2Proof
end

