-- ==== Sys2Proof/Decode.lean ====
section
/-! DEFINITION. Decoding and encoding. A word is read in the space it arrives in (R80): the command port, a frame of
one framing, or a code word of one character encoding. The patterns are those of R81, R82 and R89 to R92. -/

namespace Sys2Proof

/-- The number of data bits (R190). -/
def DataBits.count : DataBits → Nat
  | .five => 5
  | .seven => 7
  | .eight => 8

/-- The frame length `T` of a framing (R89, R191, R192). -/
def FramingSpec.totalBits : FramingSpec → Nat
  | .async d .one _ => 1 + d.count + 1
  | .async d .two _ => 1 + d.count + 2
  | .async d .oneAndHalf _ => 2 * (1 + d.count) + 3
  | .fourOfSeven => 7

/-- The space a word arrives in: it says which of the formats of R80 the word is read by. -/
inductive Space where
  | command
  | frame (spec : FramingSpec)
  | ita2
  | ccir476
  | ascii7
  | ascii8
deriving DecidableEq, Repr

/-- Why a word is no instruction. -/
inductive Reject where
  /-- The word has a one bit beyond the width of its space. -/
  | wordTooWide
  /-- The bits do not match the frame pattern of R84 or R85 (an illegal pattern of R93). -/
  | illegalFrame
deriving DecidableEq, Repr

/-- The width in bits of the words of a space (R81, R89 to R92). -/
def Space.width : Space → Nat
  | .command => 20
  | .frame spec => spec.totalBits
  | .ita2 => 5
  | .ccir476 => 7
  | .ascii7 => 7
  | .ascii8 => 8

/-- The slice of `len` bits from bit `lo` up (R13). -/
def bitsAt (w : RawCode) (lo len : Nat) : Nat := w.toNat / 2 ^ lo % 2 ^ len

/-- Format CMD (R81, R82): `op` is bits 19:16, `imm16` bits 15:0. Every opcode has a row. -/
def decodeCommand (w : RawCode) : Instr :=
  let imm : Sample := w.truncate 16
  match bitsAt w 16 4 with
  | 0 => .nop imm
  | 1 => .construct imm
  | 2 => .start imm
  | 3 => .stop imm
  | 4 => .reset imm
  | 5 => .sample imm
  | 6 => .reservedOp6 imm
  | 7 => .reservedOp7 imm
  | 8 => .reservedOp8 imm
  | 9 => .reservedOp9 imm
  | 10 => .reservedOpA imm
  | 11 => .reservedOpB imm
  | 12 => .reservedOpC imm
  | 13 => .reservedOpD imm
  | 14 => .reservedOpE imm
  | _ => .reservedOpF imm

/-- The data field of an ASYNC word, if bit 0 (start) is 0 and the top `stop` bits are all ones (R84, R86). -/
def asyncData (d stop : Nat) (w : RawCode) : Option DataCode :=
  if bitsAt w 0 1 = 0 ∧ bitsAt w (1 + d) stop = 2 ^ stop - 1 then some (BitVec.ofNat 8 (bitsAt w 1 d)) else none

/-- The data field of an ASYNC2 word, if the start pair is `00`, every data pair `00` or `11` and the stop field
`111` (R85, R87). -/
def async2Data (d : Nat) (w : RawCode) : Option DataCode :=
  if bitsAt w 0 2 = 0 ∧ bitsAt w (2 * d + 2) 3 = 7
      ∧ (List.range d).all (fun i => bitsAt w (2 * i + 2) 2 = 0 || bitsAt w (2 * i + 2) 2 = 3) then
    some (BitVec.ofNat 8 ((List.range d).foldl (fun v i => v + 2 ^ i * bitsAt w (2 * i + 2) 1) 0))
  else none

/-- The data field of a frame word, `none` for an illegal pattern. Every 7-bit group is a SYNC7 word (R88). -/
def frameData : FramingSpec → RawCode → Option DataCode
  | .async d .one _, w => asyncData d.count 1 w
  | .async d .two _, w => asyncData d.count 2 w
  | .async d .oneAndHalf _, w => async2Data d.count w
  | .fourOfSeven, w => some (BitVec.ofNat 8 (bitsAt w 0 7))

/-- The row of a framing (R89). -/
def frameRow : FramingSpec → DataCode → Instr
  | .async .five .one false, d => .frame5N1 (d.truncate 5)
  | .async .five .one true, d => .frame5N1Efr (d.truncate 5)
  | .async .five .two false, d => .frame5N2 (d.truncate 5)
  | .async .five .two true, d => .frame5N2Efr (d.truncate 5)
  | .async .five .oneAndHalf false, d => .frame5N15 (d.truncate 5)
  | .async .five .oneAndHalf true, d => .frame5N15Efr (d.truncate 5)
  | .async .seven .one false, d => .frame7N1 (d.truncate 7)
  | .async .seven .one true, d => .frame7N1Efr (d.truncate 7)
  | .async .seven .two false, d => .frame7N2 (d.truncate 7)
  | .async .seven .two true, d => .frame7N2Efr (d.truncate 7)
  | .async .seven .oneAndHalf false, d => .frame7N15 (d.truncate 7)
  | .async .seven .oneAndHalf true, d => .frame7N15Efr (d.truncate 7)
  | .async .eight .one false, d => .frame8N1 d
  | .async .eight .one true, d => .frame8N1Efr d
  | .async .eight .two false, d => .frame8N2 d
  | .async .eight .two true, d => .frame8N2Efr d
  | .async .eight .oneAndHalf false, d => .frame8N15 d
  | .async .eight .oneAndHalf true, d => .frame8N15Efr d
  | .fourOfSeven, d => .frame4of7 (d.truncate 7)

/-- Formats ASYNC, ASYNC2 and SYNC7 (R84, R85, R88). -/
def decodeFrame (spec : FramingSpec) (w : RawCode) : Except Reject Instr :=
  match frameData spec w with
  | some d => .ok (frameRow spec d)
  | none => .error .illegalFrame

/-- The 32 code words of ITA2 (R90): the row of each 5-bit code. -/
def decodeIta2 (d : BitVec 5) : Instr :=
  match d.toNat with
  | 0 => .ita2Code00
  | 1 => .ita2Code01
  | 2 => .ita2Code02
  | 3 => .ita2Code03
  | 4 => .ita2Code04
  | 5 => .ita2Code05
  | 6 => .ita2Code06
  | 7 => .ita2Code07
  | 8 => .ita2Code08
  | 9 => .ita2Code09
  | 10 => .ita2Code0A
  | 11 => .ita2Code0B
  | 12 => .ita2Code0C
  | 13 => .ita2Code0D
  | 14 => .ita2Code0E
  | 15 => .ita2Code0F
  | 16 => .ita2Code10
  | 17 => .ita2Code11
  | 18 => .ita2Code12
  | 19 => .ita2Code13
  | 20 => .ita2Code14
  | 21 => .ita2Code15
  | 22 => .ita2Code16
  | 23 => .ita2Code17
  | 24 => .ita2Code18
  | 25 => .ita2Code19
  | 26 => .ita2Code1A
  | 27 => .ita2Code1B
  | 28 => .ita2Code1C
  | 29 => .ita2Code1D
  | 30 => .ita2Code1E
  | _ => .ita2Code1F

/-- The 128 code words of the 4-of-7 code (R91): the row of each 7-bit code. -/
def decodeCcir476 (d : BitVec 7) : Instr :=
  match d.toNat with
  | 0 => .fecCode00
  | 1 => .fecCode01
  | 2 => .fecCode02
  | 3 => .fecCode03
  | 4 => .fecCode04
  | 5 => .fecCode05
  | 6 => .fecCode06
  | 7 => .fecCode07
  | 8 => .fecCode08
  | 9 => .fecCode09
  | 10 => .fecCode0A
  | 11 => .fecCode0B
  | 12 => .fecCode0C
  | 13 => .fecCode0D
  | 14 => .fecCode0E
  | 15 => .fecCode0F
  | 16 => .fecCode10
  | 17 => .fecCode11
  | 18 => .fecCode12
  | 19 => .fecCode13
  | 20 => .fecCode14
  | 21 => .fecCode15
  | 22 => .fecCode16
  | 23 => .fecCode17
  | 24 => .fecCode18
  | 25 => .fecCode19
  | 26 => .fecCode1A
  | 27 => .fecCode1B
  | 28 => .fecCode1C
  | 29 => .fecCode1D
  | 30 => .fecCode1E
  | 31 => .fecCode1F
  | 32 => .fecCode20
  | 33 => .fecCode21
  | 34 => .fecCode22
  | 35 => .fecCode23
  | 36 => .fecCode24
  | 37 => .fecCode25
  | 38 => .fecCode26
  | 39 => .fecCode27
  | 40 => .fecCode28
  | 41 => .fecCode29
  | 42 => .fecCode2A
  | 43 => .fecCode2B
  | 44 => .fecCode2C
  | 45 => .fecCode2D
  | 46 => .fecCode2E
  | 47 => .fecCode2F
  | 48 => .fecCode30
  | 49 => .fecCode31
  | 50 => .fecCode32
  | 51 => .fecCode33
  | 52 => .fecCode34
  | 53 => .fecCode35
  | 54 => .fecCode36
  | 55 => .fecCode37
  | 56 => .fecCode38
  | 57 => .fecCode39
  | 58 => .fecCode3A
  | 59 => .fecCode3B
  | 60 => .fecCode3C
  | 61 => .fecCode3D
  | 62 => .fecCode3E
  | 63 => .fecCode3F
  | 64 => .fecCode40
  | 65 => .fecCode41
  | 66 => .fecCode42
  | 67 => .fecCode43
  | 68 => .fecCode44
  | 69 => .fecCode45
  | 70 => .fecCode46
  | 71 => .fecCode47
  | 72 => .fecCode48
  | 73 => .fecCode49
  | 74 => .fecCode4A
  | 75 => .fecCode4B
  | 76 => .fecCode4C
  | 77 => .fecCode4D
  | 78 => .fecCode4E
  | 79 => .fecCode4F
  | 80 => .fecCode50
  | 81 => .fecCode51
  | 82 => .fecCode52
  | 83 => .fecCode53
  | 84 => .fecCode54
  | 85 => .fecCode55
  | 86 => .fecCode56
  | 87 => .fecCode57
  | 88 => .fecCode58
  | 89 => .fecCode59
  | 90 => .fecCode5A
  | 91 => .fecCode5B
  | 92 => .fecCode5C
  | 93 => .fecCode5D
  | 94 => .fecCode5E
  | 95 => .fecCode5F
  | 96 => .fecCode60
  | 97 => .fecCode61
  | 98 => .fecCode62
  | 99 => .fecCode63
  | 100 => .fecCode64
  | 101 => .fecCode65
  | 102 => .fecCode66
  | 103 => .fecCode67
  | 104 => .fecCode68
  | 105 => .fecCode69
  | 106 => .fecCode6A
  | 107 => .fecCode6B
  | 108 => .fecCode6C
  | 109 => .fecCode6D
  | 110 => .fecCode6E
  | 111 => .fecCode6F
  | 112 => .fecCode70
  | 113 => .fecCode71
  | 114 => .fecCode72
  | 115 => .fecCode73
  | 116 => .fecCode74
  | 117 => .fecCode75
  | 118 => .fecCode76
  | 119 => .fecCode77
  | 120 => .fecCode78
  | 121 => .fecCode79
  | 122 => .fecCode7A
  | 123 => .fecCode7B
  | 124 => .fecCode7C
  | 125 => .fecCode7D
  | 126 => .fecCode7E
  | _ => .fecCode7F

/-- The instruction a word of a space is, or why it is none. -/
def decode (sp : Space) (w : RawCode) : Except Reject Instr :=
  if w.toNat < 2 ^ sp.width then
    match sp with
    | .command => .ok (decodeCommand w)
    | .frame spec => decodeFrame spec w
    | .ita2 => .ok (decodeIta2 (w.truncate 5))
    | .ccir476 => .ok (decodeCcir476 (w.truncate 7))
    | .ascii7 => .ok (.asciiCode7 (w.truncate 7))
    | .ascii8 => .ok (.asciiCode8 (w.truncate 8))
  else .error .wordTooWide

/-- A command word (R81): `op` in bits 19:16. -/
def encodeCommand (op : Nat) (imm : Sample) : RawCode := BitVec.ofNat 32 (op * 2 ^ 16 + imm.toNat)

/-- An ASYNC word: `stop` ones, the data bits, a 0 (R84). -/
def encodeAsync (d stop : Nat) (data : Nat) : RawCode := BitVec.ofNat 32 ((2 ^ stop - 1) * 2 ^ (1 + d) + data * 2)

/-- An ASYNC2 word: three ones, every data bit twice, two 0s (R85). -/
def encodeAsync2 (d : Nat) (data : Nat) : RawCode :=
  BitVec.ofNat 32 (7 * 2 ^ (2 * d + 2)
    + (List.range d).foldl (fun v i => v + 3 * 2 ^ (2 * i + 2) * (data / 2 ^ i % 2)) 0)

/-- The raw code of a valid frame (R89). -/
def encodeFrame : FramingSpec → Nat → RawCode
  | .async d .one _, data => encodeAsync d.count 1 data
  | .async d .two _, data => encodeAsync d.count 2 data
  | .async d .oneAndHalf _, data => encodeAsync2 d.count data
  | .fourOfSeven, data => BitVec.ofNat 32 data

/-- The space and the word of an instruction; an internal operation has none (R100). -/
def encode : Instr → Option (Space × RawCode)
  | .nop imm => some (.command, encodeCommand 0 imm)
  | .construct imm => some (.command, encodeCommand 1 imm)
  | .start imm => some (.command, encodeCommand 2 imm)
  | .stop imm => some (.command, encodeCommand 3 imm)
  | .reset imm => some (.command, encodeCommand 4 imm)
  | .sample imm => some (.command, encodeCommand 5 imm)
  | .reservedOp6 imm => some (.command, encodeCommand 6 imm)
  | .reservedOp7 imm => some (.command, encodeCommand 7 imm)
  | .reservedOp8 imm => some (.command, encodeCommand 8 imm)
  | .reservedOp9 imm => some (.command, encodeCommand 9 imm)
  | .reservedOpA imm => some (.command, encodeCommand 10 imm)
  | .reservedOpB imm => some (.command, encodeCommand 11 imm)
  | .reservedOpC imm => some (.command, encodeCommand 12 imm)
  | .reservedOpD imm => some (.command, encodeCommand 13 imm)
  | .reservedOpE imm => some (.command, encodeCommand 14 imm)
  | .reservedOpF imm => some (.command, encodeCommand 15 imm)
  | .frame5N1 data => some (.frame (.async .five .one false), encodeFrame (.async .five .one false) data.toNat)
  | .frame5N1Efr data => some (.frame (.async .five .one true), encodeFrame (.async .five .one true) data.toNat)
  | .frame5N2 data => some (.frame (.async .five .two false), encodeFrame (.async .five .two false) data.toNat)
  | .frame5N2Efr data => some (.frame (.async .five .two true), encodeFrame (.async .five .two true) data.toNat)
  | .frame5N15 data => some (.frame (.async .five .oneAndHalf false), encodeFrame (.async .five .oneAndHalf false) data.toNat)
  | .frame5N15Efr data => some (.frame (.async .five .oneAndHalf true), encodeFrame (.async .five .oneAndHalf true) data.toNat)
  | .frame7N1 data => some (.frame (.async .seven .one false), encodeFrame (.async .seven .one false) data.toNat)
  | .frame7N1Efr data => some (.frame (.async .seven .one true), encodeFrame (.async .seven .one true) data.toNat)
  | .frame7N2 data => some (.frame (.async .seven .two false), encodeFrame (.async .seven .two false) data.toNat)
  | .frame7N2Efr data => some (.frame (.async .seven .two true), encodeFrame (.async .seven .two true) data.toNat)
  | .frame7N15 data => some (.frame (.async .seven .oneAndHalf false), encodeFrame (.async .seven .oneAndHalf false) data.toNat)
  | .frame7N15Efr data => some (.frame (.async .seven .oneAndHalf true), encodeFrame (.async .seven .oneAndHalf true) data.toNat)
  | .frame8N1 data => some (.frame (.async .eight .one false), encodeFrame (.async .eight .one false) data.toNat)
  | .frame8N1Efr data => some (.frame (.async .eight .one true), encodeFrame (.async .eight .one true) data.toNat)
  | .frame8N2 data => some (.frame (.async .eight .two false), encodeFrame (.async .eight .two false) data.toNat)
  | .frame8N2Efr data => some (.frame (.async .eight .two true), encodeFrame (.async .eight .two true) data.toNat)
  | .frame8N15 data => some (.frame (.async .eight .oneAndHalf false), encodeFrame (.async .eight .oneAndHalf false) data.toNat)
  | .frame8N15Efr data => some (.frame (.async .eight .oneAndHalf true), encodeFrame (.async .eight .oneAndHalf true) data.toNat)
  | .frame4of7 data => some (.frame .fourOfSeven, encodeFrame (.fourOfSeven) data.toNat)
  | .ita2Code00 => some (.ita2, 0x00)
  | .ita2Code01 => some (.ita2, 0x01)
  | .ita2Code02 => some (.ita2, 0x02)
  | .ita2Code03 => some (.ita2, 0x03)
  | .ita2Code04 => some (.ita2, 0x04)
  | .ita2Code05 => some (.ita2, 0x05)
  | .ita2Code06 => some (.ita2, 0x06)
  | .ita2Code07 => some (.ita2, 0x07)
  | .ita2Code08 => some (.ita2, 0x08)
  | .ita2Code09 => some (.ita2, 0x09)
  | .ita2Code0A => some (.ita2, 0x0A)
  | .ita2Code0B => some (.ita2, 0x0B)
  | .ita2Code0C => some (.ita2, 0x0C)
  | .ita2Code0D => some (.ita2, 0x0D)
  | .ita2Code0E => some (.ita2, 0x0E)
  | .ita2Code0F => some (.ita2, 0x0F)
  | .ita2Code10 => some (.ita2, 0x10)
  | .ita2Code11 => some (.ita2, 0x11)
  | .ita2Code12 => some (.ita2, 0x12)
  | .ita2Code13 => some (.ita2, 0x13)
  | .ita2Code14 => some (.ita2, 0x14)
  | .ita2Code15 => some (.ita2, 0x15)
  | .ita2Code16 => some (.ita2, 0x16)
  | .ita2Code17 => some (.ita2, 0x17)
  | .ita2Code18 => some (.ita2, 0x18)
  | .ita2Code19 => some (.ita2, 0x19)
  | .ita2Code1A => some (.ita2, 0x1A)
  | .ita2Code1B => some (.ita2, 0x1B)
  | .ita2Code1C => some (.ita2, 0x1C)
  | .ita2Code1D => some (.ita2, 0x1D)
  | .ita2Code1E => some (.ita2, 0x1E)
  | .ita2Code1F => some (.ita2, 0x1F)
  | .fecCode00 => some (.ccir476, 0x00)
  | .fecCode01 => some (.ccir476, 0x01)
  | .fecCode02 => some (.ccir476, 0x02)
  | .fecCode03 => some (.ccir476, 0x03)
  | .fecCode04 => some (.ccir476, 0x04)
  | .fecCode05 => some (.ccir476, 0x05)
  | .fecCode06 => some (.ccir476, 0x06)
  | .fecCode07 => some (.ccir476, 0x07)
  | .fecCode08 => some (.ccir476, 0x08)
  | .fecCode09 => some (.ccir476, 0x09)
  | .fecCode0A => some (.ccir476, 0x0A)
  | .fecCode0B => some (.ccir476, 0x0B)
  | .fecCode0C => some (.ccir476, 0x0C)
  | .fecCode0D => some (.ccir476, 0x0D)
  | .fecCode0E => some (.ccir476, 0x0E)
  | .fecCode0F => some (.ccir476, 0x0F)
  | .fecCode10 => some (.ccir476, 0x10)
  | .fecCode11 => some (.ccir476, 0x11)
  | .fecCode12 => some (.ccir476, 0x12)
  | .fecCode13 => some (.ccir476, 0x13)
  | .fecCode14 => some (.ccir476, 0x14)
  | .fecCode15 => some (.ccir476, 0x15)
  | .fecCode16 => some (.ccir476, 0x16)
  | .fecCode17 => some (.ccir476, 0x17)
  | .fecCode18 => some (.ccir476, 0x18)
  | .fecCode19 => some (.ccir476, 0x19)
  | .fecCode1A => some (.ccir476, 0x1A)
  | .fecCode1B => some (.ccir476, 0x1B)
  | .fecCode1C => some (.ccir476, 0x1C)
  | .fecCode1D => some (.ccir476, 0x1D)
  | .fecCode1E => some (.ccir476, 0x1E)
  | .fecCode1F => some (.ccir476, 0x1F)
  | .fecCode20 => some (.ccir476, 0x20)
  | .fecCode21 => some (.ccir476, 0x21)
  | .fecCode22 => some (.ccir476, 0x22)
  | .fecCode23 => some (.ccir476, 0x23)
  | .fecCode24 => some (.ccir476, 0x24)
  | .fecCode25 => some (.ccir476, 0x25)
  | .fecCode26 => some (.ccir476, 0x26)
  | .fecCode27 => some (.ccir476, 0x27)
  | .fecCode28 => some (.ccir476, 0x28)
  | .fecCode29 => some (.ccir476, 0x29)
  | .fecCode2A => some (.ccir476, 0x2A)
  | .fecCode2B => some (.ccir476, 0x2B)
  | .fecCode2C => some (.ccir476, 0x2C)
  | .fecCode2D => some (.ccir476, 0x2D)
  | .fecCode2E => some (.ccir476, 0x2E)
  | .fecCode2F => some (.ccir476, 0x2F)
  | .fecCode30 => some (.ccir476, 0x30)
  | .fecCode31 => some (.ccir476, 0x31)
  | .fecCode32 => some (.ccir476, 0x32)
  | .fecCode33 => some (.ccir476, 0x33)
  | .fecCode34 => some (.ccir476, 0x34)
  | .fecCode35 => some (.ccir476, 0x35)
  | .fecCode36 => some (.ccir476, 0x36)
  | .fecCode37 => some (.ccir476, 0x37)
  | .fecCode38 => some (.ccir476, 0x38)
  | .fecCode39 => some (.ccir476, 0x39)
  | .fecCode3A => some (.ccir476, 0x3A)
  | .fecCode3B => some (.ccir476, 0x3B)
  | .fecCode3C => some (.ccir476, 0x3C)
  | .fecCode3D => some (.ccir476, 0x3D)
  | .fecCode3E => some (.ccir476, 0x3E)
  | .fecCode3F => some (.ccir476, 0x3F)
  | .fecCode40 => some (.ccir476, 0x40)
  | .fecCode41 => some (.ccir476, 0x41)
  | .fecCode42 => some (.ccir476, 0x42)
  | .fecCode43 => some (.ccir476, 0x43)
  | .fecCode44 => some (.ccir476, 0x44)
  | .fecCode45 => some (.ccir476, 0x45)
  | .fecCode46 => some (.ccir476, 0x46)
  | .fecCode47 => some (.ccir476, 0x47)
  | .fecCode48 => some (.ccir476, 0x48)
  | .fecCode49 => some (.ccir476, 0x49)
  | .fecCode4A => some (.ccir476, 0x4A)
  | .fecCode4B => some (.ccir476, 0x4B)
  | .fecCode4C => some (.ccir476, 0x4C)
  | .fecCode4D => some (.ccir476, 0x4D)
  | .fecCode4E => some (.ccir476, 0x4E)
  | .fecCode4F => some (.ccir476, 0x4F)
  | .fecCode50 => some (.ccir476, 0x50)
  | .fecCode51 => some (.ccir476, 0x51)
  | .fecCode52 => some (.ccir476, 0x52)
  | .fecCode53 => some (.ccir476, 0x53)
  | .fecCode54 => some (.ccir476, 0x54)
  | .fecCode55 => some (.ccir476, 0x55)
  | .fecCode56 => some (.ccir476, 0x56)
  | .fecCode57 => some (.ccir476, 0x57)
  | .fecCode58 => some (.ccir476, 0x58)
  | .fecCode59 => some (.ccir476, 0x59)
  | .fecCode5A => some (.ccir476, 0x5A)
  | .fecCode5B => some (.ccir476, 0x5B)
  | .fecCode5C => some (.ccir476, 0x5C)
  | .fecCode5D => some (.ccir476, 0x5D)
  | .fecCode5E => some (.ccir476, 0x5E)
  | .fecCode5F => some (.ccir476, 0x5F)
  | .fecCode60 => some (.ccir476, 0x60)
  | .fecCode61 => some (.ccir476, 0x61)
  | .fecCode62 => some (.ccir476, 0x62)
  | .fecCode63 => some (.ccir476, 0x63)
  | .fecCode64 => some (.ccir476, 0x64)
  | .fecCode65 => some (.ccir476, 0x65)
  | .fecCode66 => some (.ccir476, 0x66)
  | .fecCode67 => some (.ccir476, 0x67)
  | .fecCode68 => some (.ccir476, 0x68)
  | .fecCode69 => some (.ccir476, 0x69)
  | .fecCode6A => some (.ccir476, 0x6A)
  | .fecCode6B => some (.ccir476, 0x6B)
  | .fecCode6C => some (.ccir476, 0x6C)
  | .fecCode6D => some (.ccir476, 0x6D)
  | .fecCode6E => some (.ccir476, 0x6E)
  | .fecCode6F => some (.ccir476, 0x6F)
  | .fecCode70 => some (.ccir476, 0x70)
  | .fecCode71 => some (.ccir476, 0x71)
  | .fecCode72 => some (.ccir476, 0x72)
  | .fecCode73 => some (.ccir476, 0x73)
  | .fecCode74 => some (.ccir476, 0x74)
  | .fecCode75 => some (.ccir476, 0x75)
  | .fecCode76 => some (.ccir476, 0x76)
  | .fecCode77 => some (.ccir476, 0x77)
  | .fecCode78 => some (.ccir476, 0x78)
  | .fecCode79 => some (.ccir476, 0x79)
  | .fecCode7A => some (.ccir476, 0x7A)
  | .fecCode7B => some (.ccir476, 0x7B)
  | .fecCode7C => some (.ccir476, 0x7C)
  | .fecCode7D => some (.ccir476, 0x7D)
  | .fecCode7E => some (.ccir476, 0x7E)
  | .fecCode7F => some (.ccir476, 0x7F)
  | .asciiCode7 code => some (.ascii7, code.zeroExtend 32)
  | .asciiCode8 code => some (.ascii8, code.zeroExtend 32)
  | .filtCfg _ _ _ _ _ => none
  | .filtRst _ => none
  | .filtRun _ _ => none
  | .bitxLevel _ => none
  | .bitxAcc => none
  | .bitxZc => none
  | .bitxCorr => none
  | .bitxDump => none
  | .syncSql _ => none
  | .syncBit _ => none
  | .frmParse _ => none
  | .frmCheck _ => none
  | .frmCheckDoubled _ => none
  | .frmExtract _ => none
  | .decCheck _ => none
  | .decChar _ => none
  | .decRst => none
  | .fecCheck _ => none
  | .fecChar _ => none
  | .fecRst => none
  | .ita2Check _ => none
  | .ita2Char _ => none
  | .ita2Rst => none
  | .ascCheck _ => none
  | .ascChar _ => none
  | .ascRst => none
  | .getNBits => none
  | .getMsb => none
  | .sampleStep _ => none

/-- The space in which a bare word of the opcode table is read. The table's word carries no space, and the spaces
overlap (a 7-bit group is an ASYNC frame, a 4-of-7 code and an ASCII code at once), so this is the model's choice
(DESIGN CHOICE, log 6): by the row's exact width where only one space has it, else by whole bytes and the leading
bits. -/
def tableSpace (nbits w : Nat) : Space :=
  if nbits = 21 then .frame (.async .eight .oneAndHalf false)
  else if nbits = 19 then .frame (.async .seven .oneAndHalf false)
  else if nbits > 16 then
    (if w < 2 ^ 20 then .command else .frame (.async .eight .oneAndHalf false))
  else if nbits > 8 then
    (if w < 2 ^ 9 then .frame (.async .seven .one false)
     else if w < 2 ^ 9 + 2 ^ 8 then .frame (.async .eight .one false)
     else if w < 2 ^ 10 then .frame (.async .seven .two false)
     else if w < 2 ^ 11 then .frame (.async .eight .two false)
     else .frame (.async .five .oneAndHalf false))
  else if w < 2 ^ 5 ∧ nbits ≠ 7 then .ita2
  else if w < 2 ^ 7 then .ccir476
  else if 0xC0 ≤ w ∧ w % 2 = 0 then .frame (.async .five .two false)
  else .ascii8

/-- The instruction the decoder reads from a bare word of the opcode table. -/
def decodeTableWord (nbits w : Nat) : Option Instr :=
  if w < 2 ^ 32 then
    match decode (tableSpace nbits w) (BitVec.ofNat 32 w) with
    | .ok i => some i
    | .error _ => none
  else none

end Sys2Proof
end

