-- ==== Sys2Proof/Config.lean ====
section
/-! DEFINITION. What an implementation fixes: the parameters of R10 as one record of plain data, which the state holds and
every operation takes as an argument, and the free values (opaque constants: nothing can be proved of them). The default
values are in `Machine/Params.lean`. -/

namespace Sys2Proof

/-- The number format `NUM` and its operations, exactly those of R15. -/
structure NumOps where
  /-- `num_of_int16(s)`: the sample's two's complement value, exactly (R63). -/
  ofInt16 : Sample → Number
  /-- `num_const(q)`. -/
  const : Rat → Number
  add : Number → Number → Number
  sub : Number → Number → Number
  mul : Number → Number → Number
  div : Number → Number → Number
  abs : Number → Number
  max : Number → Number → Number
  /-- `a > 0`. -/
  gtZero : Number → Bool
  /-- `a < c`. -/
  lt : Number → Number → Bool
deriving Inhabited

/-- An IEEE 754 binary interchange format, by the widths of its exponent and fraction fields. -/
structure BinaryFormat where
  expBits : Nat
  fracBits : Nat
deriving DecidableEq, Repr

/-- `NUM` as plain data: a binary format with round to nearest even, or any other format and arithmetic, by a number that
names it (R10, D1; log 7). -/
inductive NumFormat where
  | ieee (f : BinaryFormat)
  | other (id : Nat)
deriving DecidableEq, Repr

/-- A parameter that is a function of one rational, as plain data: `c / x`, `c * x`, or any other function, by a number
that names it (R10; log 9). -/
inductive RatFunction where
  | over (c : Rat)
  | times (c : Rat)
  | other (id : Nat)
deriving DecidableEq, Repr

/-- A glyph table, plain data: for every code a Unicode scalar value or none (R218, R236). -/
abbrev GlyphTable (w : Nat) := Vector (Option Scalar) (2 ^ w)

/-- The parameters of R10, each a named argument of the model. -/
structure Params where
  /-- `NUM` (D1). -/
  num : NumFormat
  /-- `COEF`, by a number that names the function (D3, I3). -/
  coef : Nat
  /-- `TONE_BUMP(fc)` in Hz, a rational (D4; DESIGN CHOICE, log 8). -/
  toneBump : RatFunction
  /-- `TONE_Q(fc)` (D5). -/
  toneQ : RatFunction
  /-- `LP_FREQ` in Hz, a rational (D5), although R112 lets a target frequency be real (DESIGN CHOICE, log 8). -/
  lpFreq : Rat
  /-- `LP_Q` (D5). -/
  lpQ : Resonance
  /-- `AVG_TC`, a function of the sample rate (D7). -/
  avgTc : RatFunction
  /-- `AVG_FLOOR` (D7). -/
  avgFloor : Rat
  /-- `SIGNAL_FLOOR` (D8). -/
  signalFloor : Rat
  /-- `ZC_DIV`, samples per histogram bin (D11). -/
  zcDiv : Nat
  /-- `ZC_CYCLE`, symbol periods per correction cycle (D12). -/
  zcCycle : Nat
  /-- `LOOP_DIV` (D13). -/
  loopDiv : Nat
  /-- `CONFIRM_N` (D18). -/
  confirmN : Nat
  /-- `ERR_LIMIT` (D20). -/
  errLimit : Nat
  /-- `USOS`, unshift on space (D30). -/
  usos : Bool
  /-- `ITA2_LTRS` (D31). -/
  ita2Ltrs : GlyphTable 5
  /-- `ITA2_FIGS` (D31). -/
  ita2Figs : GlyphTable 5
  /-- `FEC_LTRS` (D27). -/
  fecLtrs : GlyphTable 7
  /-- `FEC_FIGS` (D27). -/
  fecFigs : GlyphTable 7
  /-- `TALLY_W`, the width of the tallies (D38). -/
  tallyW : Nat
deriving DecidableEq, Repr

/-- FREE VALUE. `COEF` of each name, in each number format: "a model takes `COEF` as a configuration function and may assume
only that it depends on its four arguments alone" (R113, I3; DESIGN CHOICE, log 8). -/
opaque Config.coef : Nat → NumFormat → SectionKind → Rat → Nat → Resonance → Coeffs

/-- FREE VALUE. The operations of a `NUM` that is no IEEE 754 binary format (R10, D1; DESIGN CHOICE, log 7). -/
opaque Config.otherNum : Nat → NumOps

/-- FREE VALUE. A function of one rational in the place of the default of `TONE_BUMP`, `TONE_Q` or `AVG_TC` (R10;
DESIGN CHOICE, log 9). -/
opaque Config.otherFunction : Nat → Rat → Rat

/-- FREE VALUE. `max` of two numbers of which one is NaN, in each binary format (I4; DESIGN CHOICE, log 7). -/
opaque Config.maxNaN : BinaryFormat → Number → Number → Number

/-- FREE VALUE. The content of `sync.rec[i]` where R51 calls it unspecified; the first argument counts the
occasions (I2; DESIGN CHOICE, log 11). -/
opaque Config.freeRec : Nat → Nat → RawCode

/-- FREE VALUE. FRM.CHECK of a code under a descriptor without start bit, for which R194 and R195 give no result and
which R197 never asks for (DESIGN CHOICE, log 12). -/
opaque Config.frmCheckNoStart : RawCode → Bool

end Sys2Proof
end

