-- ==== Sys2Proof/Machine/Glyphs.lean ====
section
/-! DEFINITION. The default glyph tables: International Telegraph Alphabet No. 2 (R236) and the CCIR 476 table (R218).
The spec marks both as general knowledge and as parameters (D27, D31; log 17). `none`: the code prints nothing. -/

namespace Sys2Proof.Machine

/-- `ITA2_LTRS` (R236). -/
def ita2Ltrs (d : BitVec 5) : Option Scalar :=
  match d.toNat with
  | 0x01 => some 0x0045
  | 0x02 => some 0x000A
  | 0x03 => some 0x0041
  | 0x04 => some 0x0020
  | 0x05 => some 0x0053
  | 0x06 => some 0x0049
  | 0x07 => some 0x0055
  | 0x08 => some 0x000D
  | 0x09 => some 0x0044
  | 0x0A => some 0x0052
  | 0x0B => some 0x004A
  | 0x0C => some 0x004E
  | 0x0D => some 0x0046
  | 0x0E => some 0x0043
  | 0x0F => some 0x004B
  | 0x10 => some 0x0054
  | 0x11 => some 0x005A
  | 0x12 => some 0x004C
  | 0x13 => some 0x0057
  | 0x14 => some 0x0048
  | 0x15 => some 0x0059
  | 0x16 => some 0x0050
  | 0x17 => some 0x0051
  | 0x18 => some 0x004F
  | 0x19 => some 0x0042
  | 0x1A => some 0x0047
  | 0x1C => some 0x004D
  | 0x1D => some 0x0058
  | 0x1E => some 0x0056
  | _ => none

/-- `ITA2_FIGS` (R236). -/
def ita2Figs (d : BitVec 5) : Option Scalar :=
  match d.toNat with
  | 0x01 => some 0x0033
  | 0x02 => some 0x000A
  | 0x03 => some 0x002D
  | 0x04 => some 0x0020
  | 0x05 => some 0x0027
  | 0x06 => some 0x0038
  | 0x07 => some 0x0037
  | 0x08 => some 0x000D
  | 0x09 => some 0x0005
  | 0x0A => some 0x0034
  | 0x0B => some 0x0007
  | 0x0C => some 0x002C
  | 0x0D => some 0x0021
  | 0x0E => some 0x003A
  | 0x0F => some 0x0028
  | 0x10 => some 0x0035
  | 0x11 => some 0x002B
  | 0x12 => some 0x0029
  | 0x13 => some 0x0032
  | 0x14 => some 0x0023
  | 0x15 => some 0x0036
  | 0x16 => some 0x0030
  | 0x17 => some 0x0031
  | 0x18 => some 0x0039
  | 0x19 => some 0x003F
  | 0x1A => some 0x0026
  | 0x1C => some 0x002E
  | 0x1D => some 0x002F
  | 0x1E => some 0x003D
  | _ => none

/-- `FEC_LTRS` (R218). -/
def fecLtrs (d : BitVec 7) : Option Scalar :=
  match d.toNat with
  | 0x17 => some 0x004A
  | 0x1B => some 0x0046
  | 0x1D => some 0x0043
  | 0x1E => some 0x004B
  | 0x27 => some 0x0057
  | 0x2B => some 0x0059
  | 0x2D => some 0x0050
  | 0x2E => some 0x0051
  | 0x35 => some 0x0047
  | 0x39 => some 0x004D
  | 0x3A => some 0x0058
  | 0x3C => some 0x0056
  | 0x47 => some 0x0041
  | 0x4B => some 0x0053
  | 0x4D => some 0x0049
  | 0x4E => some 0x0055
  | 0x53 => some 0x0044
  | 0x55 => some 0x0052
  | 0x56 => some 0x0045
  | 0x59 => some 0x004E
  | 0x5C => some 0x0020
  | 0x63 => some 0x005A
  | 0x65 => some 0x004C
  | 0x69 => some 0x0048
  | 0x6C => some 0x000A
  | 0x71 => some 0x004F
  | 0x72 => some 0x0042
  | 0x74 => some 0x0054
  | 0x78 => some 0x000D
  | _ => none

/-- `FEC_FIGS` (R218). -/
def fecFigs (d : BitVec 7) : Option Scalar :=
  match d.toNat with
  | 0x17 => some 0x0007
  | 0x1B => some 0x0021
  | 0x1D => some 0x003A
  | 0x1E => some 0x0028
  | 0x27 => some 0x0032
  | 0x2B => some 0x0036
  | 0x2D => some 0x0030
  | 0x2E => some 0x0031
  | 0x35 => some 0x0026
  | 0x39 => some 0x002E
  | 0x3A => some 0x002F
  | 0x3C => some 0x003D
  | 0x47 => some 0x002D
  | 0x4B => some 0x0027
  | 0x4D => some 0x0038
  | 0x4E => some 0x0037
  | 0x53 => some 0x0005
  | 0x55 => some 0x0034
  | 0x56 => some 0x0033
  | 0x59 => some 0x002C
  | 0x5C => some 0x0020
  | 0x63 => some 0x002B
  | 0x65 => some 0x0029
  | 0x69 => some 0x0023
  | 0x6C => some 0x000A
  | 0x71 => some 0x0039
  | 0x72 => some 0x003F
  | 0x74 => some 0x0035
  | 0x78 => some 0x000D
  | _ => none

end Sys2Proof.Machine
end

