-- ==== Sys2Proof/Machine/Num.lean ====
section
/-! DEFINITION. The number format `NUM`: IEEE 754 binary formats, round to nearest even, one rounding per operation, of
which binary64 is the default (R10, R15, D1). Every finite datum of a format is a whole number of units, its smallest
positive datum, so each operation is exact integer arithmetic followed by one rounding. NaN is one datum, without payload
(log 7). -/

namespace Sys2Proof

/-- The default format, binary64. -/
def BinaryFormat.binary64 : BinaryFormat := ⟨11, 52⟩

/-- The place of the sign bit. -/
def BinaryFormat.signPlace (F : BinaryFormat) : Nat := F.expBits + F.fracBits

/-- The bits below the sign. -/
def BinaryFormat.magnitude (F : BinaryFormat) (a : Number) : Nat := a.code % 2 ^ F.signPlace

/-- The sign bit. -/
def BinaryFormat.isNeg (F : BinaryFormat) (a : Number) : Bool := a.code.testBit F.signPlace

/-- The magnitude of infinity. -/
def BinaryFormat.infMagnitude (F : BinaryFormat) : Nat := (2 ^ F.expBits - 1) * 2 ^ F.fracBits

def BinaryFormat.isNaN (F : BinaryFormat) (a : Number) : Bool := decide (F.infMagnitude < F.magnitude a)

def BinaryFormat.isInf (F : BinaryFormat) (a : Number) : Bool := decide (F.magnitude a = F.infMagnitude)

/-- Sign and magnitude to a datum. -/
def BinaryFormat.pack (F : BinaryFormat) (neg : Bool) (magnitude : Nat) : Number :=
  ⟨magnitude % 2 ^ F.signPlace + (if neg then 2 ^ F.signPlace else 0)⟩

/-- The datum in the low bits of a code. -/
def BinaryFormat.datum (F : BinaryFormat) (a : Number) : Number := F.pack (F.isNeg a) (F.magnitude a)

/-- The NaN datum. -/
def BinaryFormat.nan (F : BinaryFormat) : Number := F.pack false (F.infMagnitude + 2 ^ (F.fracBits - 1))

def BinaryFormat.inf (F : BinaryFormat) (neg : Bool) : Number := F.pack neg F.infMagnitude

/-- The number 1 in units: `2^(bias - 1 + fracBits)`, 2^1074 in binary64. -/
def BinaryFormat.unitScale (F : BinaryFormat) : Nat := 2 ^ (2 ^ (F.expBits - 1) - 2 + F.fracBits)

/-- The absolute value of a finite datum in units. -/
def BinaryFormat.units (F : BinaryFormat) (a : Number) : Nat :=
  let e := F.magnitude a / 2 ^ F.fracBits
  let f := F.magnitude a % 2 ^ F.fracBits
  if e = 0 then f else (f + 2 ^ F.fracBits) * 2 ^ (e - 1)

/-- The value of a finite datum in units. -/
def BinaryFormat.value (F : BinaryFormat) (a : Number) : Int := if F.isNeg a then -(F.units a : Int) else F.units a

/-- The datum nearest to `n/d` units, ties to even, infinity beyond the range. -/
def BinaryFormat.round (F : BinaryFormat) (neg : Bool) (n d : Nat) : Number :=
  let shift := Nat.log2 (n / d) - F.fracBits
  let d' := d * 2 ^ shift
  let m := n / d'
  let r := n % d'
  let up := d' < 2 * r ∨ (2 * r = d' ∧ m % 2 = 1)
  let magnitude := shift * 2 ^ F.fracBits + (if up then m + 1 else m)
  F.pack neg (min magnitude F.infMagnitude)

/-- The datum nearest to `v` units, `v` not 0. -/
def BinaryFormat.roundInt (F : BinaryFormat) (v : Int) : Number := F.round (decide (v < 0)) v.natAbs 1

def BinaryFormat.neg (F : BinaryFormat) (a : Number) : Number :=
  if F.isNaN a then F.nan else F.pack (!F.isNeg a) (F.magnitude a)

/-- Addition. An exact zero is `+0`, but `-0 + -0 = -0`. -/
def BinaryFormat.add (F : BinaryFormat) (a b : Number) : Number :=
  if F.isNaN a || F.isNaN b then F.nan
  else if F.isInf a then (if F.isInf b && F.isNeg a != F.isNeg b then F.nan else F.inf (F.isNeg a))
  else if F.isInf b then F.inf (F.isNeg b)
  else if F.value a + F.value b = 0 then F.pack (F.isNeg a && F.isNeg b) 0
  else F.roundInt (F.value a + F.value b)

def BinaryFormat.sub (F : BinaryFormat) (a b : Number) : Number := F.add a (F.neg b)

/-- Multiplication. -/
def BinaryFormat.mul (F : BinaryFormat) (a b : Number) : Number :=
  let neg := F.isNeg a != F.isNeg b
  if F.isNaN a || F.isNaN b then F.nan
  else if F.isInf a || F.isInf b then
    (if F.magnitude a = 0 ∨ F.magnitude b = 0 then F.nan else F.inf neg)
  else F.round neg (F.units a * F.units b) F.unitScale

/-- Division. -/
def BinaryFormat.div (F : BinaryFormat) (a b : Number) : Number :=
  let neg := F.isNeg a != F.isNeg b
  if F.isNaN a || F.isNaN b then F.nan
  else if F.isInf a then (if F.isInf b then F.nan else F.inf neg)
  else if F.isInf b then F.pack neg 0
  else if F.magnitude b = 0 then (if F.magnitude a = 0 then F.nan else F.inf neg)
  else F.round neg (F.units a * F.unitScale) (F.units b)

def BinaryFormat.abs (F : BinaryFormat) (a : Number) : Number := if F.isNaN a then F.nan else F.pack false (F.magnitude a)

/-- The order of the non-NaN data as integers; `-0` and `+0` are equal. -/
def BinaryFormat.key (F : BinaryFormat) (a : Number) : Int :=
  if F.isNeg a then -(F.magnitude a : Int) else F.magnitude a

/-- `a < b`; false when either is NaN (I4). -/
def BinaryFormat.lt (F : BinaryFormat) (a b : Number) : Bool :=
  !F.isNaN a && !F.isNaN b && decide (F.key a < F.key b)

/-- The number zero. -/
def BinaryFormat.zero (F : BinaryFormat) : Number := F.pack false 0

/-- `a > 0`. -/
def BinaryFormat.gtZero (F : BinaryFormat) (a : Number) : Bool := F.lt F.zero a

/-- The larger operand. With a NaN operand the result is a free value (I4, log 7). -/
def BinaryFormat.max (F : BinaryFormat) (a b : Number) : Number :=
  F.datum (if F.isNaN a || F.isNaN b then Config.maxNaN F a b else if F.lt a b then b else a)

/-- The datum nearest to a rational. -/
def BinaryFormat.ofRat (F : BinaryFormat) (q : Rat) : Number :=
  if q.num = 0 then F.zero else F.round (decide (q.num < 0)) (q.num.natAbs * F.unitScale) q.den

/-- The two's complement value of a sample, without scaling (R63, D2). -/
def BinaryFormat.ofSample (F : BinaryFormat) (x : Sample) : Number :=
  if x.toInt = 0 then F.zero else F.roundInt (x.toInt * F.unitScale)

/-- The operations of a binary format. -/
def BinaryFormat.ops (F : BinaryFormat) : NumOps where
  ofInt16 := F.ofSample
  const := F.ofRat
  add := F.add
  sub := F.sub
  mul := F.mul
  div := F.div
  abs := F.abs
  max := F.max
  gtZero := F.gtZero
  lt := F.lt

/-- The operations of `NUM` (R15). -/
def NumFormat.ops : NumFormat → NumOps
  | .ieee F => F.ops
  | .other id => Config.otherNum id

/-- A value as the format stores it: a code of a binary format has the format's width. -/
def NumFormat.datum : NumFormat → Number → Number
  | .ieee F, a => F.datum a
  | .other _, a => a

end Sys2Proof
end

