-- ==== Sys2Proof/Machine/Params.lean ====
section
/-! DEFINITION. The default value of every parameter (R10), and the default coefficient formulas (R113). -/

namespace Sys2Proof.Machine

/-- The formulas of the default `COEF` (R113), evaluated in `NUM` from `sin w` and `cos w` with
`w = 2 pi targetFreq / sampleRate`. How close a realisation comes to the real values is its own matter (I3), so the
machine takes `COEF` as a free value and this definition serves only to reproduce R114 (log 8). -/
def cookbook (num : NumOps) (kind : SectionKind) (sinW cosW q : Number) : Coeffs :=
  let one := num.const 1
  let two := num.const 2
  let alpha := num.div sinW (num.mul two q)
  let a0 := num.add one alpha
  let oneMinusCos := num.sub one cosW
  let (b0, b1, b2) := match kind with
    | .bandpass => (alpha, num.const 0, num.sub (num.const 0) alpha)
    | .lowpass => (num.div oneMinusCos two, oneMinusCos, num.div oneMinusCos two)
  { b0 := num.div b0 a0
    b1 := num.div b1 a0
    b2 := num.div b2 a0
    a1 := num.div (num.mul (num.const (-2)) cosW) a0
    a2 := num.div (num.sub one alpha) a0 }

end Sys2Proof.Machine

namespace Sys2Proof

/-- A function parameter applied to its argument (R10). -/
def RatFunction.at : RatFunction → Rat → Rat
  | .over c, x => c / x
  | .times c, x => c * x
  | .other id, x => Config.otherFunction id x

/-- The glyph of a code, or none. -/
def GlyphTable.at {w : Nat} (t : GlyphTable w) (d : BitVec w) : Option Scalar := t.get d.toFin

/-- The table of a function. -/
def GlyphTable.tabulate {w : Nat} (f : BitVec w → Option Scalar) : GlyphTable w :=
  Vector.ofFn (fun i => f (BitVec.ofFin i))

/-- `num_const(0)`, the reset value of every history element and of `bx.avg` (R22, R25). -/
def Params.zero (P : Params) : Number := P.num.ops.const 0

/-- `COEF(kind, targetFreq, sampleRate, Q)`, each coefficient a value of `NUM` (R113). -/
def Params.coefficients (P : Params) (kind : SectionKind) (targetFreq : Rat) (sampleRate : Nat) (q : Resonance) : Coeffs :=
  let c := Config.coef P.coef P.num kind targetFreq sampleRate q
  ⟨P.num.datum c.b0, P.num.datum c.b1, P.num.datum c.b2, P.num.datum c.a1, P.num.datum c.a2⟩

/-- The parameters with the defaults of R10. -/
def Params.default : Params where
  num := .ieee .binary64
  coef := 0
  toneBump := .over 4000
  toneQ := .times (6 / 1000)
  lpFreq := 140
  lpQ := .sqrtOf (1 / 2)
  avgTc := .over 1000
  avgFloor := 1 / 10
  signalFloor := 256
  zcDiv := 4
  zcCycle := 16
  loopDiv := 8
  confirmN := 4
  errLimit := 2
  usos := false
  ita2Ltrs := .tabulate Machine.ita2Ltrs
  ita2Figs := .tabulate Machine.ita2Figs
  fecLtrs := .tabulate Machine.fecLtrs
  fecFigs := .tabulate Machine.fecFigs
  tallyW := 32

end Sys2Proof
end

