-- ==== Sys2Proof/Machine/State.lean ====
section
/-! DEFINITION. The state of the block, partitioned as R21 partitions it, the reasons a step can stop, and the state
at power-on (R51, column "power-on"). -/

namespace Sys2Proof.Machine

/-- The stop field of a descriptor: the grammar's 1, 1.5 or 2 stop bits, or none for `4/7` (R191). -/
inductive StopField where
  | none | one | oneAndHalf | two
deriving DecidableEq, Repr

/-- The framing descriptor (R191): data-bit count, stop-bit count, total bit count, doubling flag, and the two
fields this spec adds. -/
structure Descriptor where
  startBits : Nat
  dataBits : Nat
  stopBits : StopField
  totalBits : Nat
  doubled : Bool
  varStop : Bool
deriving DecidableEq, Repr

/-- The encoding selector (R200, R264). -/
inductive Encoding where
  | ccir476 | ita2 | ascii
deriving DecidableEq, Repr

/-- The configuration ports 0 to 6 as the host drives them (R49). -/
structure ConfigPorts where
  sampleRate : BitVec 32
  centerFreq : Rat
  shift : Rat
  baud : Rat
  inverted : Bool
  framing : PortText
  encoding : PortText
deriving DecidableEq, Repr

/-- What CONSTRUCT latches (R8, R263) and the constants it derives (R9, R11). `T` and `msb` are also the registers
`NBITS` and `MSBMASK` (ports 12 and 13). -/
structure Latched where
  sampleRate : Nat
  centerFreq : Rat
  shift : Rat
  baud : Rat
  baudC : Rat
  inverted : Bool
  desc : Descriptor
  enc : Encoding
  k : Nat
  N : Nat
  nbins : Nat
  T : Nat
  msb : RawCode
  markFreq : Rat
  spaceFreq : Rat
deriving DecidableEq, Repr

/-- One second-order section: five coefficients (R23) and four history values (R22). -/
structure Section where
  coef : Coeffs
  x1 : Number
  x2 : Number
  y1 : Number
  y2 : Number
deriving DecidableEq, Repr

/-- The filter bank (R22). -/
structure FilterBank where
  mark : Section
  space : Section
  lp : Section
deriving DecidableEq, Repr

/-- The bit extractor (R25 to R32). The last three are the per-step Booleans of R32: recomputed in every sample step
before they are read. -/
structure BitExtractor where
  avg : Number
  oldRaw : Bool
  acc : Int
  run : Nat
  untilEvent : Int
  phase : Nat
  zcCount : Nat
  hist : List Nat
  corrPending : Int
  symBit : Bool
  rawMark : Bool
  signalPresent : Bool
  pulseEdge : Bool
deriving DecidableEq, Repr

/-- The states of the frame synchronizer (R33). -/
inductive SyncState where
  | noSignal | hunting | confirming | steadyState
deriving DecidableEq, Repr

/-- The frame synchronizer (R33 to R40). `recd` is the spec's `sync.rec`. -/
structure Synchronizer where
  state : SyncState
  resync : Bool
  code : RawCode
  bitCount : Nat
  fill : Nat
  validCount : Nat
  recd : List RawCode
  errCount : Nat
  waitSpace : Bool
deriving DecidableEq, Repr

/-- The ITA2 decoder (R41). `shift`: false = Letters, true = Figures. -/
structure Ita2State where
  shift : Bool
  lookValid : Bool
  look : BitVec 5
deriving DecidableEq, Repr

/-- The 4-of-7 decoder (R42). -/
structure FecState where
  alphaPhase : Bool
  c1 : BitVec 7
  c2 : BitVec 7
  c3 : BitVec 7
  shift : Bool
deriving DecidableEq, Repr

/-- The diagnostics (R45, R46). The tallies are `TALLY_W` bits wide and saturate. -/
structure Diagnostics where
  succTally : Nat
  failTally : Nat
  timingError : Int
deriving DecidableEq, Repr

/-- The result codes of a command (R291). -/
inductive ErrCode where
  | ok | badCommand | badFraming | badEncoding | badCombination | badConfig
  | alreadyRunning | notConstructed | notRunning
deriving DecidableEq, Repr

/-- The control flags (R47) and `STATUS.err` (R48). -/
structure Control where
  constructed : Bool
  running : Bool
  err : ErrCode
deriving DecidableEq, Repr

/-- An event of the output list (R272, R273): on `CHAR_OUT`, `STATE_OUT` or `TERR_OUT` (in half-samples). -/
inductive Event where
  | char (c : Scalar)
  | state (s : SyncState)
  | timingError (off2 : Int)
deriving DecidableEq, Repr

/-- What the world presents to the block next: new values on the configuration ports, or one word of a space
(DESIGN CHOICE, log 1). -/
inductive Input where
  | drive (ports : ConfigPorts)
  | word (sp : Space) (w : RawCode)
deriving DecidableEq, Repr

/-- The value an operation or code word returns when it is run on its own (the model's, log 4). -/
inductive OpResult where
  | nothing
  | flag (b : Bool)
  | number (y : Number)
  | descriptor (d : Option Descriptor)
  | data (d : DataCode)
  | char (c : Option Scalar)
  | charOk (c : Option Scalar) (ok : Bool)
  | count (n : Nat)
  | mask (m : RawCode)
deriving DecidableEq, Repr

/-- The whole state of the block (R20, R21); the parameters it was built with, which nothing writes; and three fields of
the model: `inbox`, `ret`, `freeCount`. -/
structure State where
  /-- The parameters of R10, arguments of every operation: a run has those of the state it starts from (log 9). -/
  params : Params
  ports : ConfigPorts
  cfg : Latched
  filt : FilterBank
  bx : BitExtractor
  sync : Synchronizer
  ita2 : Ita2State
  fec : FecState
  diag : Diagnostics
  ctl : Control
  /-- The output list of the last command (R272). -/
  out : List Event
  /-- What the host presents next, oldest first (the model's, log 1). -/
  inbox : List Input
  /-- The value the last operation run on its own returned (the model's, log 4). -/
  ret : OpResult
  /-- How many times free values have been drawn (the model's, log 11). -/
  freeCount : Nat
deriving DecidableEq, Repr

/-- The reasons the machine can stop with a fault: none. "At runtime, there are no exceptions in the hot path" (R294);
a failed command completes with a result code (R290). -/
inductive Fault where
deriving DecidableEq, Repr

/-- The reasons a step is refused. -/
inductive Refusal where
  /-- Raised by `exec` alone, for an instruction without a meaning. No arm raises it. Safe. -/
  | notModelled (mnemonic : String)
  /-- Raised by `step` when the inbox presents a word with bits beyond its format's width: "longer strings cannot be
  presented" (I12), no port carries such a word (log 16). Safe: the machine has no such input. -/
  | wordTooWide
deriving DecidableEq, Repr

/-- The descriptor before the first CONSTRUCT: unspecified (I1); the model names zeros (log 10). -/
def Descriptor.unset : Descriptor := ⟨0, 0, .none, 0, false, false⟩

/-- A section with these coefficients whose history is zero (R22, R115). -/
def Section.cleared (zero : Number) (coef : Coeffs) : Section := ⟨coef, zero, zero, zero, zero⟩

/-- A section at power-on: its coefficients are unspecified and the model names zeros (log 10). -/
def Section.powerOn (zero : Number) : Section := .cleared zero ⟨zero, zero, zero, zero, zero⟩

/-- Power-on of a block with these parameters (R51, R320): every value the spec gives; the unspecified ones are named by
the model (log 10, log 11). -/
def State.powerOn (P : Params) : State where
  params := P
  ports := ⟨0, 0, 0, 0, false, Vector.replicate 8 0, Vector.replicate 8 0⟩
  cfg := ⟨0, 0, 0, 0, 0, false, .unset, .ccir476, 0, 0, 0, 0, 0, 0, 0⟩
  filt := ⟨.powerOn P.zero, .powerOn P.zero, .powerOn P.zero⟩
  bx := ⟨P.zero, false, 0, 0, 0, 0, 0, [], 0, false, false, false, false⟩
  sync := ⟨.noSignal, true, 0, 0, 0, 0, List.replicate P.confirmN 0, 0, false⟩
  ita2 := ⟨false, false, 0⟩
  fec := ⟨false, 0, 0, 0, false⟩
  diag := ⟨0, 0, 0⟩
  ctl := ⟨false, false, .ok⟩
  out := []
  inbox := []
  ret := .nothing
  freeCount := 0

/-- Power-on of the block with the default parameters (R10, R51). -/
def State.reset : State := .powerOn .default

/-! The update of each group of the state, so that a proof unfolds none of them (`Laws/State.lean`). -/

def State.setPorts (s : State) (x : ConfigPorts) : State := { s with ports := x }
def State.setCfg (s : State) (x : Latched) : State := { s with cfg := x }
def State.setFilt (s : State) (x : FilterBank) : State := { s with filt := x }
def State.setBx (s : State) (x : BitExtractor) : State := { s with bx := x }
def State.setSync (s : State) (x : Synchronizer) : State := { s with sync := x }
def State.setIta2 (s : State) (x : Ita2State) : State := { s with ita2 := x }
def State.setFec (s : State) (x : FecState) : State := { s with fec := x }
def State.setDiag (s : State) (x : Diagnostics) : State := { s with diag := x }
def State.setCtl (s : State) (x : Control) : State := { s with ctl := x }
def State.setOut (s : State) (x : List Event) : State := { s with out := x }
def State.setInbox (s : State) (x : List Input) : State := { s with inbox := x }
def State.setRet (s : State) (x : OpResult) : State := { s with ret := x }
def State.setFreeCount (s : State) (x : Nat) : State := { s with freeCount := x }

end Sys2Proof.Machine
end

