-- ==== Sys2Proof/Machine/Operands.lean ====
section
/-! DEFINITION. The operand forms: the bytes of a text port, the bits of a raw code and of a data code. -/

namespace Sys2Proof.Machine

/-- The string of port 5 or 6: the bytes before the first 0x00, or all 8 bytes if there is none (R49). -/
def portString (t : PortText) : List Byte := t.toList.takeWhile (fun b => b != 0)

/-- One ASCII character of a port string. -/
def asciiByte (c : Char) : Byte := BitVec.ofNat 8 c.toNat

/-- An ASCII text as bytes. -/
def asciiBytes (t : List Char) : List Byte := t.map asciiByte

/-- An ASCII text of at most 8 characters as the host drives it on port 5 or 6: padded with 0x00 (R49). -/
def portText (t : List Char) : PortText := Vector.ofFn (fun i => (asciiBytes t).getD i.val 0)

/-- The text of port 5 or 6 is the given string, compared exactly (R190, R264). -/
def portIs (t : PortText) (name : List Char) : Bool := portString t == asciiBytes name

/-- The bits `code[lo + len - 1 : lo]` (R13). -/
def codeField (code : RawCode) (lo len : Nat) : Nat := bitsAt code lo len

/-- One shift of the rolling code register: the new bit enters at `MSB`, older bits move toward bit 0 and the bit
that was at bit 0 is lost (R35, R64). -/
def shiftIn (msb : RawCode) (bit : Bool) (code : RawCode) : RawCode :=
  (code >>> 1) ||| (if bit then msb else 0)

/-- The `n` symbol bits of a raw code in order of arrival: the first-received bit is bit 0 (R64, R99). -/
def arrivalBits (n : Nat) (code : RawCode) : List Bool := (List.range n).map (fun i => code.getLsbD i)

/-- The number of one bits (R13). -/
def popcount (d : BitVec 7) : Nat := ((List.range 7).filter (fun i => d.getLsbD i)).length

/-- `floor(q + 1/2)` (R14). -/
def roundHalfUp (q : Rat) : Int := (q + 1 / 2).floor

/-- `ceil(a / n)` for naturals, `n > 0`. -/
def ceilDiv (a n : Nat) : Nat := (a + n - 1) / n

end Sys2Proof.Machine
end

