-- ==== Sys2Proof/Machine/Flags.lean ====
section
/-! DEFINITION. The one-bit tests and the status registers: the numeric codes of R33, R264 and R291, saturation of the
tallies (R198), the weight test of R211, and the views of the state on ports 7 to 13 (R49). -/

namespace Sys2Proof.Machine

/-- The numeric encoding of the synchronizer states (R33). -/
def SyncState.toBits : SyncState → BitVec 2
  | .noSignal => 0
  | .hunting => 1
  | .confirming => 2
  | .steadyState => 3

/-- The selector values of R264. -/
def Encoding.toBits : Encoding → BitVec 2
  | .ccir476 => 0
  | .ita2 => 1
  | .ascii => 2

/-- The result codes of R291. -/
def ErrCode.toBits : ErrCode → BitVec 4
  | .ok => 0
  | .badCommand => 1
  | .badFraming => 2
  | .badEncoding => 3
  | .badCombination => 4
  | .badConfig => 5
  | .alreadyRunning => 6
  | .notConstructed => 7
  | .notRunning => 8

/-- `sat_inc(v) = min(v + 1, 2^TALLY_W - 1)` (R198). -/
def satInc (tallyW v : Nat) : Nat := min (v + 1) (2 ^ tallyW - 1)

/-- A 4-of-7 code is valid when exactly four of its bits are set (R211). -/
def weightFour (d : BitVec 7) : Bool := popcount d == 4

/-- Port 7 `STATUS`: bit 0 `constructed`, bit 1 `running`, bits 5:2 `err` (R49). -/
def statusPort (s : State) : BitVec 6 :=
  s.ctl.err.toBits ++ BitVec.ofBool s.ctl.running ++ BitVec.ofBool s.ctl.constructed

/-- Port 8 `SYNC_STATE` (R49). -/
def syncStatePort (s : State) : BitVec 2 := s.sync.state.toBits

/-- `ceil(log2(n))`. For `n = 0` the logarithm has no value and the model takes 0, so that port 9 has 2 bits before the
first CONSTRUCT, where `N` is unspecified (DESIGN CHOICE, log 10). -/
def ceilLog2 (n : Nat) : Nat := if n ≤ 1 then 0 else Nat.log2 (n - 1) + 1

/-- The width of port 9 `TIMING_ERROR` and of `TERR_OUT`: `ceil(log2(N)) + 2` bits (R49, R273); before
the first CONSTRUCT, where `N` is unspecified (I1), the model's 2 bits (log 10). -/
def timingErrorWidth (s : State) : Nat := ceilLog2 s.cfg.N + 2

/-- Port 9 `TIMING_ERROR`, two's complement, in half-samples (R49). -/
def timingErrorPort (s : State) : BitVec (timingErrorWidth s) := BitVec.ofInt _ s.diag.timingError

/-- Port 10 `SUCC_TALLY`, `TALLY_W` bits (R49). -/
def succTallyPort (P : Params) (s : State) : BitVec P.tallyW := BitVec.ofNat _ s.diag.succTally

/-- Port 11 `FAIL_TALLY`, `TALLY_W` bits (R49). -/
def failTallyPort (P : Params) (s : State) : BitVec P.tallyW := BitVec.ofNat _ s.diag.failTally

/-- Port 12 `NBITS`, the answer of GetNBits (R49, R193). -/
def nbitsPort (s : State) : BitVec 6 := BitVec.ofNat 6 s.cfg.T

/-- Port 13 `MSBMASK`, the answer of GetMSB(32) (R49, R193). -/
def msbMaskPort (s : State) : BitVec 32 := s.cfg.msb

/-- A host read of a read-only register, as a number and its width; ports 0 to 6 are inputs (R49, R50, R275). A read
returns the value the last completed command left and changes nothing (R67). -/
def readPort (P : Params) (s : State) : Nat → Option (Nat × Nat)
  | 7 => some (6, (statusPort s).toNat)
  | 8 => some (2, (syncStatePort s).toNat)
  | 9 => some (timingErrorWidth s, (timingErrorPort s).toNat)
  | 10 => some (P.tallyW, (succTallyPort P s).toNat)
  | 11 => some (P.tallyW, (failTallyPort P s).toNat)
  | 12 => some (6, (nbitsPort s).toNat)
  | 13 => some (32, (msbMaskPort s).toNat)
  | _ => none

end Sys2Proof.Machine
end

