-- ==== Sys2Proof/Machine/Ops.lean ====
section
/-! DEFINITION. The shared operations: completing a command with a result code (the block's only exception, R290), the
events (R272), the control transfers of the synchronizer (R296), and the tallies. There is no return from an
exception: "There is no return instruction" (R297). -/

namespace Sys2Proof.Machine

/-- The command completes with this result code and nothing else changes (R290, R291). `raise` of the spec with an
error, and `STATUS.err <- OK`. -/
def raise (e : ErrCode) (s : State) : State := s.setCtl { s.ctl with err := e }

/-- Append an event to the output list of the current step (R16, R272). -/
def emit (e : Event) (s : State) : State := s.setOut (s.out ++ [e])

/-- `emit Char(c)` when a decoder returned a character; nothing otherwise (R273). -/
def emitChar (c : Option Scalar) (s : State) : State :=
  match c with
  | some c => emit (.char c) s
  | none => s

/-- A control transfer: write `sync.state` and emit the `State` event (R16, R173). -/
def enterState (t : SyncState) (s : State) : State := emit (.state t) (s.setSync { s.sync with state := t })

/-- Arm the resync flag (R34). -/
def armResync (s : State) : State := s.setSync { s.sync with resync := true }

/-- The forced resynchronisation, the block's "trap" (R168, R171, R296): nothing is saved, the resync flag is armed and
control goes to Hunting. -/
def forceHunting (s : State) : State := enterState .hunting (armResync s)

/-- `diag.succTally <- sat_inc(diag.succTally)` (R198). -/
def countSuccess (P : Params) (s : State) : State :=
  s.setDiag { s.diag with succTally := satInc P.tallyW s.diag.succTally }

/-- `diag.failTally <- sat_inc(diag.failTally)` (R198). -/
def countFailure (P : Params) (s : State) : State :=
  s.setDiag { s.diag with failTally := satInc P.tallyW s.diag.failTally }

/-- The decoder of this encoding is at work: it is the one selected at construction (R44), the block runs, and it is not
squelched ("only the synchronizer and the decoders are idle"; stopped, "nothing runs, all state is kept", R304). -/
def decoding (enc : Encoding) (s : State) : Bool :=
  s.ctl.constructed && s.ctl.running && decide (s.cfg.enc = enc) && decide (s.sync.state ≠ .noSignal)

/-- A code word reaches the decoder of its encoding if that decoder is at work; else nothing changes (R44, R304; log 3). -/
def codeWord (enc : Encoding) (call : State → State) (s : State) : State := if decoding enc s then call s else s

/-- The free content of `sync.rec`: `CONFIRM_N` free values of the register's width `T` (R51; log 11). -/
def freeWindow (P : Params) (T count : Nat) : List RawCode :=
  (List.range P.confirmN).map (fun i => BitVec.ofNat 32 ((Config.freeRec count i).toNat % 2 ^ T))

/-- The content of `sync.rec` becomes unspecified (R51): free values (log 11). -/
def forgetRec (P : Params) (s : State) : State :=
  (s.setSync { s.sync with recd := freeWindow P s.cfg.T s.freeCount }).setFreeCount (s.freeCount + 1)

end Sys2Proof.Machine
end

