-- ==== Sys2Proof/Machine/AsciiDecoder.lean ====
section
/-! DEFINITION. The ASCII pass-through decoder: ASC.CHECK, ASC.CHAR, ASC.RST (R250 to R254). It has no state (R43). -/

namespace Sys2Proof.Machine

/-- ASC.CHECK: always true (R251). -/
def ascCheck (_d : DataCode) : Bool := true

/-- ASC.CHAR: the code point is the code masked to 7 or 8 bits as configured (R252). -/
def ascChar (dataBits : Nat) (d : DataCode) : Scalar :=
  (if dataBits = 7 then d &&& 0x7F else d &&& 0xFF).zeroExtend 21

/-- A call of ASC.CHAR: the mask is that of the framing descriptor (R250), and the character is the value returned
(R252). -/
def ascCall (d : DataCode) (s : State) : State := s.setRet (.char (some (ascChar s.cfg.desc.dataBits d)))

/-- ASC.RST: no effect; there is no state to restore (R253). -/
def ascRst (s : State) : State := s

end Sys2Proof.Machine
end

