-- ==== Sys2Proof/Machine/AsciiCodes.lean ====
section
/-! DEFINITION. The meanings of the ASCII code words: ASC.CHAR of the code under the mask of the framing descriptor, which
is the only mode there is (R92, R250, R252), where that decoder is at work (R44, R304; log 3). -/

namespace Sys2Proof.Machine

/-- An ASCII code word: ASC.CHAR of its code (R250, R252). -/
def asciiWord (d : DataCode) (s : State) : State := codeWord .ascii (ascCall d) s

/-- A 7-bit code word: the character is the code, which either mask leaves as it is (R92, R252). -/
def execAsciiCode7 (code : BitVec 7) (s : State) : Host.Outcome State Fault Refusal :=
  .next (asciiWord (code.zeroExtend 8) s)

/-- An 8-bit code word: the character is the code, masked to 7 bits under a 7-bit framing (R92, R252). -/
def execAsciiCode8 (code : BitVec 8) (s : State) : Host.Outcome State Fault Refusal :=
  .next (asciiWord code s)

end Sys2Proof.Machine
end

