-- ==== Sys2Proof/Machine/FilterBank.lean ====
section
/-! DEFINITION. The tone filter bank: FILT.CFG, FILT.RST, FILT.RUN (R110 to R118). -/

namespace Sys2Proof.Machine

/-- One of the three sections (R22). -/
def FilterBank.get (b : FilterBank) : SectionName → Section
  | .mark => b.mark
  | .space => b.space
  | .lp => b.lp

/-- Replace one of the three sections. -/
def FilterBank.set (b : FilterBank) (f : SectionName) (x : Section) : FilterBank :=
  match f with
  | .mark => { b with mark := x }
  | .space => { b with space := x }
  | .lp => { b with lp := x }

/-- FILT.CFG: recompute the coefficients; the history is not touched (R112). -/
def filtCfg (P : Params) (f : SectionName) (kind : SectionKind) (targetFreq : Rat) (sampleRate : Nat)
    (q : Resonance) (s : State) : State :=
  s.setFilt (s.filt.set f { s.filt.get f with coef := P.coefficients kind targetFreq sampleRate q })

/-- FILT.RST: zero the history; the coefficients are unchanged (R115). -/
def filtRst (P : Params) (f : SectionName) (s : State) : State :=
  s.setFilt (s.filt.set f (.cleared P.zero (s.filt.get f).coef))

/-- FILT.RST of the three sections. -/
def filtRstAll (P : Params) (s : State) : State := filtRst P .lp (filtRst P .space (filtRst P .mark s))

/-- The output of a section: five products and four sums, left to right, each rounded (R116). -/
def sectionOutput (num : NumOps) (f : Section) (x : Number) : Number :=
  let t0 := num.mul f.coef.b0 x
  let t1 := num.add t0 (num.mul f.coef.b1 f.x1)
  let t2 := num.add t1 (num.mul f.coef.b2 f.x2)
  let t3 := num.sub t2 (num.mul f.coef.a1 f.y1)
  num.sub t3 (num.mul f.coef.a2 f.y2)

/-- The section after one sample (R116). -/
def sectionStep (num : NumOps) (f : Section) (x : Number) : Section :=
  { f with x2 := f.x1, x1 := x, y2 := f.y1, y1 := sectionOutput num f x }

/-- FILT.RUN: one output sample (R116). -/
def filtRun (P : Params) (f : SectionName) (x : Number) (s : State) : State × Number :=
  let sec := s.filt.get f
  (s.setFilt (s.filt.set f (sectionStep P.num.ops sec x)), sectionOutput P.num.ops sec x)

end Sys2Proof.Machine
end

