-- ==== Sys2Proof/Machine/BitExtractor.lean ====
section
/-! DEFINITION. The symbol-level bit extractor and its timing loop: BITX.LEVEL, BITX.ACC, BITX.ZC, BITX.CORR, BITX.DUMP
and the end of the sample step (R130 to R150). -/

namespace Sys2Proof.Machine

/-- The running average after one sample (R131): weighted update, then the floor. -/
def averageStep (P : Params) (sampleRate : Nat) (avg mAbs sAbs : Number) : Number :=
  let num := P.num.ops
  let stepped := num.add avg (num.mul (num.sub (num.max mAbs sAbs) avg) (num.const (P.avgTc.at sampleRate)))
  num.max (num.const P.avgFloor) stepped

/-- BITX.LEVEL: filters, running average, signal-present flag, normalised difference, raw bit (R130 to R134). -/
def bitxLevel (P : Params) (sample : Sample) (s : State) : State :=
  let num := P.num.ops
  let x := num.ofInt16 sample
  let (s, m) := filtRun P .mark x s
  let (s, sp) := filtRun P .space x s
  let mAbs := num.abs m
  let sAbs := num.abs sp
  let avg := averageStep P s.cfg.sampleRate s.bx.avg mAbs sAbs
  let diff := num.div (num.sub mAbs sAbs) avg
  let (s, logic) := filtRun P .lp diff s
  s.setBx { s.bx with
    avg := avg
    signalPresent := !num.lt avg (num.const P.signalFloor)
    rawMark := num.gtZero logic != s.cfg.inverted }

/-- BITX.ACC (R135). -/
def bitxAcc (s : State) : State :=
  s.setBx { s.bx with acc := s.bx.acc + (if s.bx.rawMark then 1 else -1) }

/-- The bin of a legitimate transition: its position relative to the scheduled edge, div `ZC_DIV` (R138). -/
def transitionBin (P : Params) (N : Nat) (untilEvent : Int) : Nat :=
  ((-untilEvent) % (N : Int)).toNat / P.zcDiv

/-- HISTOGRAM_ADD (R138). -/
def histogramAdd (P : Params) (s : State) : State :=
  let j := transitionBin P s.cfg.N s.bx.untilEvent
  s.setBx { s.bx with hist := s.bx.hist.set j (s.bx.hist.getD j 0 + 1) }

/-- BITX.ZC: transition detection with the legitimacy filter (R137). -/
def bitxZc (P : Params) (s : State) : State :=
  let r := min s.cfg.N (s.bx.run + 1)
  let transition := s.bx.rawMark != s.bx.oldRaw
  let s := if transition && decide (2 * r > s.cfg.N) then histogramAdd P s else s
  s.setBx { s.bx with run := (if transition then 0 else r), oldRaw := s.bx.rawMark }

/-- The histogram's peak (value and bin) from bin `j` on: the lowest bin wins among equal maxima (R140). -/
def peakFrom : List Nat → Nat → Nat → Nat → Nat × Nat
  | [], _, best, idx => (best, idx)
  | q :: rest, j, best, idx => if q > best then peakFrom rest (j + 1) q j else peakFrom rest (j + 1) best idx

/-- The raw offset of a peak bin in half-samples, in `[-N, N-1]` (R141). -/
def rawOffset2 (P : Params) (N idx : Nat) : Int := ((2 * (idx * P.zcDiv : Int) + N) % (2 * N)) - N

/-- The correction in samples: the offset divided by `LOOP_DIV`, rounded to nearest, halves up (R141). -/
def correction (P : Params) (off2 : Int) : Int := (off2 + P.loopDiv) / (2 * P.loopDiv)

/-- EVALUATE: find the peak, clear the histogram, and if there is a peak set the pending correction and report the raw
offset (R140, R141). -/
def evaluate (P : Params) (s : State) : State :=
  let (best, idx) := peakFrom s.bx.hist 0 0 0
  let s := s.setBx { s.bx with hist := s.bx.hist.map (fun _ => 0) }
  if best > 0 then
    let off2 := rawOffset2 P s.cfg.N idx
    let s := s.setBx { s.bx with corrPending := correction P off2 }
    emit (.timingError off2) (s.setDiag { s.diag with timingError := off2 })
  else s

/-- BITX.CORR: the correction cycle, once every `ZC_CYCLE` ticks of `N` samples (R139). -/
def bitxCorr (P : Params) (s : State) : State :=
  if s.bx.phase = 0 then
    if s.bx.zcCount + 1 ≥ P.zcCycle then
      let s := evaluate P s
      s.setBx { s.bx with zcCount := 0 }
    else s.setBx { s.bx with zcCount := s.bx.zcCount + 1 }
  else s

/-- BITX.DUMP: pulse edge, symbol decision, rescheduling (R142 to R144). -/
def bitxDump (s : State) : State :=
  if s.bx.untilEvent = 0 then
    s.setBx { s.bx with
      pulseEdge := true
      symBit := decide (s.bx.acc > 0)
      acc := 0
      untilEvent := (s.cfg.N : Int) + s.bx.corrPending
      corrPending := 0 }
  else s.setBx { s.bx with pulseEdge := false }

/-- The end of the sample step (R146). -/
def endOfStep (s : State) : State :=
  s.setBx { s.bx with untilEvent := s.bx.untilEvent - 1, phase := (s.bx.phase + 1) % s.cfg.N }

end Sys2Proof.Machine
end

