-- ==== Sys2Proof/Machine/FecDecoder.lean ====
section
/-! DEFINITION. The 4-of-7 error-correcting decoder: FEC.CHECK, FEC.CHAR, FEC.RST (R210 to R219). The code assignments
are general knowledge, so marked by the spec (D26, D27; log 17). -/

namespace Sys2Proof.Machine

/-- FEC.CHECK (R211). -/
def fecCheck (d : BitVec 7) : Bool := weightFour d

/-- The slot of the current group: phasing signal 2 forces a repeat slot, phasing signal 1 an alpha slot (R213, R214). -/
def fecSlot (d : BitVec 7) (alphaPhase : Bool) : Bool :=
  if d = 0x66 then false else if d = 0x0F then true else alphaPhase

/-- FEC_INTERPRET: the new shift state and the character of a valid code (R215). -/
def fecInterpret (P : Params) (v : BitVec 7) (shift : Bool) : Bool × Option Scalar :=
  if v = 0x66 ∨ v = 0x0F ∨ v = 0x33 ∨ v = 0x6A then (shift, none)
  else if v = 0x5A then (false, none)
  else if v = 0x36 then (true, none)
  else (shift, if shift then P.fecFigs.at v else P.fecLtrs.at v)

/-- The code an alpha slot decides for: the current one if valid, else the buffered repeat if valid, else none (R214). -/
def fecChosen (d c1 : BitVec 7) : Option (BitVec 7) :=
  if fecCheck d then some d else if fecCheck c1 then some c1 else none

/-- The repeat slot of FEC.CHAR: buffer only, valid or not (R214). -/
def fecRepeat (d : BitVec 7) (s : State) : State :=
  s.setFec { s.fec with c1 := s.fec.c2, c2 := s.fec.c3, c3 := d }

/-- The alpha slot of FEC.CHAR: decide, tally, interpret (R214, R215). -/
def fecAlpha (P : Params) (d : BitVec 7) (s : State) : State × Option Scalar :=
  match fecChosen d s.fec.c1 with
  | none => (countFailure P s, none)
  | some v =>
    let (shift, c) := fecInterpret P v s.fec.shift
    let s := countSuccess P s
    (s.setFec { s.fec with shift := shift }, c)

/-- FEC.CHAR: the character, if any, and the validity of the current code (R214). -/
def fecChar (P : Params) (d : BitVec 7) (s : State) : State × Option Scalar × Bool :=
  let alpha := fecSlot d s.fec.alphaPhase
  let (s, c) := if alpha then fecAlpha P d s else (fecRepeat d s, none)
  (s.setFec { s.fec with alphaPhase := !alpha }, c, fecCheck d)

/-- FEC.RST; the tallies are not touched (R216). -/
def fecRst (s : State) : State := s.setFec ⟨false, 0, 0, 0, false⟩

end Sys2Proof.Machine
end

