-- ==== Sys2Proof/Machine/Framing.lean ====
section
/-! DEFINITION. The framing parser and validator: FRM.PARSE, FRM.CHECK, FRM.EXTRACT, GETNBITS, GETMSB (R190 to R196). -/

namespace Sys2Proof.Machine

/-- `data ::= "5" | "7" | "8"` (R190). -/
def parseData (b : Byte) : Option DataBits :=
  if b = asciiByte '5' then some .five
  else if b = asciiByte '7' then some .seven
  else if b = asciiByte '8' then some .eight
  else none

/-- `stop [ "EFR" ]` with `stop ::= "1" | "1.5" | "2"` (R190). -/
def parseStop (t : List Byte) : Option (StopBits × Bool) :=
  if t = asciiBytes ['1'] then some (.one, false)
  else if t = asciiBytes ['1', '.', '5'] then some (.oneAndHalf, false)
  else if t = asciiBytes ['2'] then some (.two, false)
  else if t = asciiBytes ['1', 'E', 'F', 'R'] then some (.one, true)
  else if t = asciiBytes ['1', '.', '5', 'E', 'F', 'R'] then some (.oneAndHalf, true)
  else if t = asciiBytes ['2', 'E', 'F', 'R'] then some (.two, true)
  else none

/-- The grammar of R190; the whole string must match. -/
def parseSpec (t : List Byte) : Option FramingSpec :=
  if t = asciiBytes ['4', '/', '7'] then some .fourOfSeven
  else
    match t with
    | d :: n :: stop =>
      match parseData d, parseStop stop with
      | some d, some (st, efr) => if n = asciiByte 'N' then some (.async d st efr) else none
      | _, _ => none
    | _ => none

/-- The stop field of a descriptor. -/
def stopField : StopBits → StopField
  | .one => .one
  | .oneAndHalf => .oneAndHalf
  | .two => .two

/-- The number of whole stop bits `S` of a non-doubled descriptor (R194). -/
def StopField.whole : StopField → Nat
  | .none => 0
  | .one => 1
  | .oneAndHalf => 1
  | .two => 2

/-- The descriptor of a framing (R191, R192). -/
def descriptorOf : FramingSpec → Descriptor
  | .fourOfSeven => ⟨0, 7, .none, 7, false, false⟩
  | .async d st efr =>
    ⟨1, d.count, stopField st, FramingSpec.totalBits (.async d st efr), decide (st = .oneAndHalf), efr⟩

/-- FRM.PARSE: the descriptor of a framing specification string, or failure (R190, R191). -/
def frmParse (t : PortText) : Option Descriptor := (parseSpec (portString t)).map descriptorOf

/-- FRM.CHECK for a non-doubled descriptor with a start bit: bit 0 is 0 and the top `S` bits are all ones (R194). -/
def frmCheckPlain (d : Descriptor) (code : RawCode) : Bool :=
  let S := d.stopBits.whole
  decide (codeField code 0 1 = 0 ∧ codeField code (d.totalBits - S) S = 2 ^ S - 1)

/-- FRM.CHECK for a doubled descriptor: start pair `00`, stop `111`, every data pair `00` or `11` (R195). -/
def frmCheckDoubled (d : Descriptor) (code : RawCode) : Bool :=
  decide (codeField code 0 2 = 0) && decide (codeField code (d.totalBits - 3) 3 = 7)
    && (List.range d.dataBits).all
      (fun i => codeField code (2 * i + 2) 2 == 0 || codeField code (2 * i + 2) 2 == 3)

/-- FRM.CHECK (R194, R195). A descriptor without start bit has no such test: free (log 12). -/
def frmCheck (d : Descriptor) (code : RawCode) : Bool :=
  if d.startBits = 0 then Config.frmCheckNoStart code
  else if d.doubled then frmCheckDoubled d code
  else frmCheckPlain d code

/-- FRM.EXTRACT: the data code, defined for every code, valid or not (R86, R87, R88, R196). -/
def frmExtract (d : Descriptor) (code : RawCode) : DataCode :=
  if d.startBits = 0 then BitVec.ofNat 8 (codeField code 0 7)
  else if d.doubled then
    BitVec.ofNat 8 ((List.range d.dataBits).foldl (fun v i => v + codeField code (2 * i + 2) 1 * 2 ^ i) 0)
  else BitVec.ofNat 8 (codeField code 1 d.dataBits)

/-- GETNBITS: `T` (R193). -/
def getNBits (s : State) : Nat := s.cfg.T

/-- GETMSB: `MSB = 1 << (T - 1)` as a 32-bit value (R193). -/
def getMsb (s : State) : RawCode := s.cfg.msb

end Sys2Proof.Machine
end

