-- ==== Sys2Proof/Machine/Ita2Decoder.lean ====
section
/-! DEFINITION. The ITA2 decoder: ITA2.CHECK, ITA2.CHAR, ITA2.RST (R230 to R238). The two shift codes are general
knowledge, so marked by the spec (R230; log 17). -/

namespace Sys2Proof.Machine

/-- Figures shift (R230). -/
def figsCode : BitVec 5 := 0x1B

/-- Letters shift (R230). -/
def ltrsCode : BitVec 5 := 0x1F

/-- The space code (R234, R236). -/
def spaceCode : BitVec 5 := 0x04

/-- ITA2.CHECK: always true (R231). -/
def ita2Check (_d : BitVec 5) : Bool := true

/-- The shift state after the previous code has taken its effect (R233). -/
def shiftAfter (prev : BitVec 5) (shift : Bool) : Bool :=
  if prev = figsCode then true else if prev = ltrsCode then false else shift

/-- ITA2.CHAR: the code received now is buffered; the previously buffered code flips the shift state; the character is
that of the code received now (R233, R234). -/
def ita2Char (P : Params) (d : BitVec 5) (s : State) : State × Option Scalar :=
  let havePrev := s.ita2.lookValid
  let prev := s.ita2.look
  let s := s.setIta2 { s.ita2 with look := d, lookValid := true }
  if !havePrev then (s, none)
  else
    let s := s.setIta2 { s.ita2 with shift := shiftAfter prev s.ita2.shift }
    if d = figsCode ∨ d = ltrsCode then (s, none)
    else
      let c := if s.ita2.shift then P.ita2Figs.at d else P.ita2Ltrs.at d
      let s := if P.usos && decide (d = spaceCode) then s.setIta2 { s.ita2 with shift := false } else s
      (s, c)

/-- ITA2.RST (R235). -/
def ita2Rst (s : State) : State := s.setIta2 ⟨false, false, 0⟩

end Sys2Proof.Machine
end

