-- ==== Sys2Proof/Machine/CharDecoder.lean ====
section
/-! DEFINITION. The composite decoder operations of the selected encoding: DEC.CHECK, DEC.CHAR, DEC.RST (R197 to
R200). -/

namespace Sys2Proof.Machine

/-- The 7-bit group of a raw code, `code[6:0]` (R88, R197). -/
def groupCode (code : RawCode) : BitVec 7 := code.truncate 7

/-- DEC.CHECK (R197). -/
def decCheck (s : State) (code : RawCode) : Bool :=
  match s.cfg.enc with
  | .ccir476 => fecCheck (groupCode code)
  | .ita2 => frmCheck s.cfg.desc code && ita2Check ((frmExtract s.cfg.desc code).truncate 5)
  | .ascii => frmCheck s.cfg.desc code && ascCheck (frmExtract s.cfg.desc code)

/-- DEC.CHAR: the character, if any, and whether the group was structurally valid (R198). -/
def decChar (P : Params) (code : RawCode) (s : State) : State × Option Scalar × Bool :=
  match s.cfg.enc with
  | .ccir476 => fecChar P (groupCode code) s
  | .ita2 =>
    if frmCheck s.cfg.desc code then
      let d := frmExtract s.cfg.desc code
      let (s, c) := ita2Char P (d.truncate 5) (countSuccess P s)
      (s, c, true)
    else (countFailure P s, none, false)
  | .ascii =>
    if frmCheck s.cfg.desc code then
      let d := frmExtract s.cfg.desc code
      (countSuccess P s, some (ascChar s.cfg.desc.dataBits d), true)
    else (countFailure P s, none, false)

/-- DEC.RST: the reset of the selected decoder; the tallies are not touched (R199). -/
def decRst (s : State) : State :=
  match s.cfg.enc with
  | .ccir476 => fecRst s
  | .ita2 => ita2Rst s
  | .ascii => ascRst s

end Sys2Proof.Machine
end

