-- ==== Sys2Proof/Machine/FrameSync.lean ====
section
/-! DEFINITION. The frame synchronizer: SYNC.SQL and SYNC.BIT with SYNC_CLEAR, HUNT_HIT, CONFIRM_GROUP, FLUSH and
STEADY_ERR (R160 to R177). -/

namespace Sys2Proof.Machine

/-- SYNC_CLEAR: the synchronizer's registers and the decoder; not `sync.state`, not `sync.resync` (R164). -/
def syncClear (s : State) : State :=
  decRst (s.setSync { s.sync with
    code := 0, bitCount := 0, fill := 0, validCount := 0, errCount := 0, waitSpace := false })

/-- R51 gives the initial value to the state of every decoder, the unselected ones included (their state is absent by
R44, and never changes in a run). -/
def resetDecoders (s : State) : State := fecRst (ita2Rst s)

/-- Entry to NoSignal (R161). The content of `sync.rec` is unspecified afterwards (R51). -/
def enterNoSignal (P : Params) (s : State) : State :=
  forgetRec P (filtRstAll P (resetDecoders (syncClear (armResync (enterState .noSignal s)))))

/-- SYNC.SQL: the squelch transitions (R161, R162). -/
def syncSql (P : Params) (signalPresent : Bool) (s : State) : State :=
  if signalPresent then
    if s.sync.state = .noSignal then enterState .hunting s else s
  else
    if s.sync.state = .noSignal then s else enterNoSignal P s

/-- The resync flag is consumed at the start of a symbol bit (R163). -/
def consumeResync (s : State) : State :=
  if s.sync.resync then
    let s := syncClear s
    let s := s.setSync { s.sync with resync := false }
    if s.sync.state = .hunting then s else enterState .hunting s
  else s

/-- HUNT_HIT: record the window, clear the register, go to Confirming (R166). -/
def huntHit (s : State) : State :=
  enterState .confirming (s.setSync { s.sync with
    recd := s.sync.recd.set 0 s.sync.code, validCount := 1, code := 0, bitCount := 0 })

/-- A symbol bit in Hunting: only full windows are tested (R165). -/
def huntBit (bit : Bool) (s : State) : State :=
  let s := s.setSync { s.sync with
    code := shiftIn s.cfg.msb bit s.sync.code, fill := min s.cfg.T (s.sync.fill + 1) }
  if s.sync.fill = s.cfg.T ∧ decCheck s s.sync.code then huntHit s else s

/-- One withheld frame of a FLUSH: decode and emit; `ok` is not counted (R169). -/
def flushOne (P : Params) (s : State) (code : RawCode) : State :=
  let (s, c, _) := decChar P code s
  emitChar c s

/-- FLUSH: decode the withheld frames in order (R169). -/
def flush (P : Params) (s : State) : State :=
  let s := (s.sync.recd.take s.sync.validCount).foldl (flushOne P) s
  s.setSync { s.sync with validCount := 0 }

/-- CONFIRM_GROUP (R168). -/
def confirmGroup (P : Params) (s : State) : State :=
  if decCheck s s.sync.code then
    let s := s.setSync { s.sync with
      recd := s.sync.recd.set s.sync.validCount s.sync.code
      validCount := s.sync.validCount + 1, code := 0, bitCount := 0 }
    if s.sync.validCount = P.confirmN then enterState .steadyState (flush P s) else s
  else forceHunting (s.setSync { s.sync with code := 0, bitCount := 0 })

/-- The shift of Confirming and SteadyState (R167, R170). -/
def groupShift (bit : Bool) (s : State) : State :=
  s.setSync { s.sync with code := shiftIn s.cfg.msb bit s.sync.code, bitCount := s.sync.bitCount + 1 }

/-- A symbol bit in Confirming (R167). -/
def confirmBit (P : Params) (bit : Bool) (s : State) : State :=
  let s := groupShift bit s
  if s.sync.bitCount = s.cfg.T then confirmGroup P s else s

/-- STEADY_ERR: the error count and the forced resynchronisation past `ERR_LIMIT` (R171). -/
def steadyErr (P : Params) (ok : Bool) (s : State) : State :=
  if ok then
    if s.sync.errCount > 0 then s.setSync { s.sync with errCount := s.sync.errCount - 1 } else s
  else
    let s := s.setSync { s.sync with errCount := s.sync.errCount + 1 }
    if s.sync.errCount > P.errLimit then forceHunting s else s

/-- A completed group in SteadyState: decode, emit, count errors, and arm the variable-stop wait (R170, R172). -/
def steadyGroup (P : Params) (s : State) : State :=
  let (s, c, ok) := decChar P s.sync.code s
  let s := steadyErr P ok (emitChar c s)
  let s := s.setSync { s.sync with code := 0, bitCount := 0 }
  if s.cfg.desc.varStop ∧ s.sync.state = .steadyState then s.setSync { s.sync with waitSpace := true } else s

/-- A symbol bit in SteadyState (R170, R172): while the wait is armed a mark is discarded and a space ends it. -/
def steadyBit (P : Params) (bit : Bool) (s : State) : State :=
  if s.sync.waitSpace && bit then s
  else
    let s := groupShift bit (s.setSync { s.sync with waitSpace := false })
    if s.sync.bitCount = s.cfg.T then steadyGroup P s else s

/-- SYNC.BIT: consume the resync flag, then process the bit in the (possibly new) state (R163 to R172). In NoSignal
"no bits are processed" (R160). -/
def syncBit (P : Params) (bit : Bool) (s : State) : State :=
  let s := consumeResync s
  match s.sync.state with
  | .noSignal => s
  | .hunting => huntBit bit s
  | .confirming => confirmBit P bit s
  | .steadyState => steadyBit P bit s

/-- The synchronizer's part of a sample step (R160). -/
def syncStep (P : Params) (s : State) : State :=
  let signalPresent := s.bx.signalPresent
  let s := syncSql P signalPresent s
  if signalPresent && s.bx.pulseEdge then syncBit P s.bx.symBit s else s

/-- A symbol bit received while a signal is present (R160 with `signalPresent = 1` and a pulse edge). -/
def receiveBit (P : Params) (s : State) (bit : Bool) : State := syncBit P bit (syncSql P true s)

/-- The `n` symbol bits of a raw code, received one after another, first-received bit first (R64). Bits are recovered
from samples alone, so a block that is not running receives nothing (R269; log 2). -/
def receiveCode (P : Params) (n : Nat) (code : RawCode) (s : State) : State :=
  if s.ctl.constructed && s.ctl.running then (arrivalBits n code).foldl (receiveBit P) (s.setOut []) else s

end Sys2Proof.Machine
end

