-- ==== Sys2Proof/Machine/Facade.lean ====
section
/-! DEFINITION. The facade: the checks and the effect of CONSTRUCT, RESET_ALL, the sample step (R260 to R278). -/

namespace Sys2Proof.Machine

/-- ENC_SELECT: exact spellings, no default (R264). -/
def encSelect (t : PortText) : Option Encoding :=
  if portIs t ['C', 'C', 'I', 'R', '4', '7', '6'] then some .ccir476
  else if portIs t ['I', 'T', 'A', '2'] then some .ita2
  else if portIs t ['A', 'S', 'C', 'I', 'I'] then some .ascii
  else none

/-- COMBO_OK (R265). -/
def comboOk (enc : Encoding) (d : Descriptor) : Bool :=
  match enc with
  | .ccir476 => decide (d = descriptorOf .fourOfSeven)
  | .ita2 => decide (d.startBits = 1 ∧ d.dataBits = 5)
  | .ascii => decide (d.startBits = 1 ∧ (d.dataBits = 7 ∨ d.dataBits = 8))

/-- `baudC = max(baud, 10)` (R9). -/
def clampBaud (baud : Rat) : Rat := if baud < 10 then 10 else baud

/-- `k`: two symbol bits per transmitted bit in a doubled framing (R11). -/
def symbolsPerBit (d : Descriptor) : Nat := if d.doubled then 2 else 1

/-- `N = floor(sampleRate / (baudC * k) + 1/2)`, exactly (R11). -/
def symbolPeriod (sampleRate : Nat) (baudC : Rat) (k : Nat) : Nat :=
  (roundHalfUp (sampleRate / (baudC * k))).toNat

/-- What CONSTRUCT latches and derives (R8, R9, R11, R263). -/
def latch (P : Params) (p : ConfigPorts) (d : Descriptor) (enc : Encoding) : Latched :=
  let sampleRate := p.sampleRate.toNat
  let baudC := clampBaud p.baud
  let k := symbolsPerBit d
  let N := symbolPeriod sampleRate baudC k
  let centre := p.centerFreq + P.toneBump.at p.centerFreq
  { sampleRate := sampleRate
    centerFreq := p.centerFreq
    shift := p.shift
    baud := p.baud
    baudC := baudC
    inverted := p.inverted
    desc := d
    enc := enc
    k := k
    N := N
    nbins := ceilDiv N P.zcDiv
    T := d.totalBits
    msb := (1 : RawCode) <<< (d.totalBits - 1)
    markFreq := centre + p.shift / 2
    spaceFreq := centre - p.shift / 2 }

/-- CONFIG_OK: every condition of R266, of the values that would be latched. -/
def configOk (P : Params) (c : Latched) : Bool :=
  decide (1000 ≤ c.sampleRate) && decide (0 < c.centerFreq)
    && decide (0 < min c.markFreq c.spaceFreq) && decide (max c.markFreq c.spaceFreq < c.sampleRate / 2)
    && decide (0 < P.lpFreq) && decide (P.lpFreq < c.sampleRate / 2)
    && decide (0 < P.toneQ.at c.centerFreq) && decide (2 ≤ c.N)

/-- The checks of CONSTRUCT in the written order: the first that fails gives the code (R262, R293). -/
def constructCheck (P : Params) (s : State) : Except ErrCode Latched :=
  if s.ctl.running then .error .alreadyRunning
  else
    match frmParse s.ports.framing with
    | none => .error .badFraming
    | some d =>
      match encSelect s.ports.encoding with
      | none => .error .badEncoding
      | some enc =>
        if comboOk enc d then
          let c := latch P s.ports d enc
          if configOk P c then .ok c else .error .badConfig
        else .error .badCombination

/-- The initial values of the bit extractor (R51, R268); the per-step Booleans carry nothing and are left (R32). -/
def bxInitial (P : Params) (c : Latched) (bx : BitExtractor) : BitExtractor :=
  { bx with
    avg := P.zero, oldRaw := false, acc := 0, run := 0
    untilEvent := (c.N : Int) - 1, phase := 0, zcCount := 0
    hist := List.replicate c.nbins 0, corrPending := 0, symBit := false }

/-- RESET_ALL (R268). No event is emitted. The content of `sync.rec` is unspecified afterwards (R51). -/
def resetAll (P : Params) (s : State) : State :=
  let s := filtRstAll P s
  let s := s.setBx (bxInitial P s.cfg s.bx)
  let s := s.setSync { s.sync with state := .noSignal, resync := true }
  let s := forgetRec P (resetDecoders (syncClear s))
  s.setDiag ⟨0, 0, 0⟩

/-- The configuration of the three sections (R111, R262). -/
def configureFilters (P : Params) (s : State) : State :=
  let q := Resonance.rational (P.toneQ.at s.cfg.centerFreq)
  let s := filtCfg P .mark .bandpass s.cfg.markFreq s.cfg.sampleRate q s
  let s := filtCfg P .space .bandpass s.cfg.spaceFreq s.cfg.sampleRate q s
  filtCfg P .lp .lowpass P.lpFreq s.cfg.sampleRate P.lpQ s

/-- CONSTRUCT (R262). -/
def construct (P : Params) (s : State) : State :=
  match constructCheck P s with
  | .error e => raise e s
  | .ok c =>
    let s := resetAll P (configureFilters P (s.setCfg c))
    s.setCtl ⟨true, false, .ok⟩

/-- START (R267). -/
def start (s : State) : State :=
  if !s.ctl.constructed then raise .notConstructed s
  else if s.ctl.running then raise .alreadyRunning s
  else s.setCtl { s.ctl with running := true, err := .ok }

/-- STOP: never fails, keeps all other state (R271). -/
def stop (s : State) : State := s.setCtl { s.ctl with running := false, err := .ok }

/-- RESET (R268). -/
def resetCommand (P : Params) (s : State) : State :=
  if !s.ctl.constructed then raise .notConstructed s
  else raise .ok (resetAll P s)

/-- SAMPLE_STEP: the whole effect of one accepted sample, in this order and no other (R270). -/
def sampleStep (P : Params) (sample : Sample) (s : State) : State :=
  let s := s.setOut []
  let s := bitxLevel P sample s
  let s := bitxAcc s
  let s := bitxZc P s
  let s := bitxCorr P s
  let s := bitxDump s
  let s := syncStep P s
  endOfStep s

/-- SAMPLE (R269). -/
def sample (P : Params) (imm : Sample) (s : State) : State :=
  if !s.ctl.constructed then raise .notConstructed s
  else if !s.ctl.running then raise .notRunning s
  else raise .ok (sampleStep P imm s)

end Sys2Proof.Machine
end

