-- ==== Sys2Proof/Machine/Commands.lean ====
section
/-! DEFINITION. The meanings of the host command words (R82, R260 to R271). `imm` is ignored by every command but
SAMPLE (R83). -/

namespace Sys2Proof.Machine

/-- NOP (R260). -/
def execNop (_imm : Sample) (s : State) : Host.Outcome State Fault Refusal := .next (raise .ok s)

/-- CONSTRUCT (R262). -/
def execConstruct (_imm : Sample) (s : State) : Host.Outcome State Fault Refusal := .next (construct s.params s)

/-- START (R267). -/
def execStart (_imm : Sample) (s : State) : Host.Outcome State Fault Refusal := .next (start s)

/-- STOP (R271). -/
def execStop (_imm : Sample) (s : State) : Host.Outcome State Fault Refusal := .next (stop s)

/-- RESET (R268). -/
def execReset (_imm : Sample) (s : State) : Host.Outcome State Fault Refusal := .next (resetCommand s.params s)

/-- SAMPLE (R269). -/
def execSample (imm : Sample) (s : State) : Host.Outcome State Fault Refusal := .next (sample s.params imm s)

/-- Reserved opcode 0x6: BAD_COMMAND (R83). -/
def execReservedOp6 (_imm : Sample) (s : State) : Host.Outcome State Fault Refusal := .next (raise .badCommand s)

/-- Reserved opcode 0x7: BAD_COMMAND (R83). -/
def execReservedOp7 (_imm : Sample) (s : State) : Host.Outcome State Fault Refusal := .next (raise .badCommand s)

/-- Reserved opcode 0x8: BAD_COMMAND (R83). -/
def execReservedOp8 (_imm : Sample) (s : State) : Host.Outcome State Fault Refusal := .next (raise .badCommand s)

/-- Reserved opcode 0x9: BAD_COMMAND (R83). -/
def execReservedOp9 (_imm : Sample) (s : State) : Host.Outcome State Fault Refusal := .next (raise .badCommand s)

/-- Reserved opcode 0xA: BAD_COMMAND (R83). -/
def execReservedOpA (_imm : Sample) (s : State) : Host.Outcome State Fault Refusal := .next (raise .badCommand s)

/-- Reserved opcode 0xB: BAD_COMMAND (R83). -/
def execReservedOpB (_imm : Sample) (s : State) : Host.Outcome State Fault Refusal := .next (raise .badCommand s)

/-- Reserved opcode 0xC: BAD_COMMAND (R83). -/
def execReservedOpC (_imm : Sample) (s : State) : Host.Outcome State Fault Refusal := .next (raise .badCommand s)

/-- Reserved opcode 0xD: BAD_COMMAND (R83). -/
def execReservedOpD (_imm : Sample) (s : State) : Host.Outcome State Fault Refusal := .next (raise .badCommand s)

/-- Reserved opcode 0xE: BAD_COMMAND (R83). -/
def execReservedOpE (_imm : Sample) (s : State) : Host.Outcome State Fault Refusal := .next (raise .badCommand s)

/-- Reserved opcode 0xF: BAD_COMMAND (R83). -/
def execReservedOpF (_imm : Sample) (s : State) : Host.Outcome State Fault Refusal := .next (raise .badCommand s)

end Sys2Proof.Machine
end

