-- ==== Sys2Proof/Machine/FecCodes.lean ====
section
/-! DEFINITION. The meanings of the 128 code words of the 4-of-7 code: FEC.CHAR of the code (R91, R214, R215); the
character and `ok` are the value returned (log 3). A decoder that is not selected, or idle, is never touched
(R44, R304). -/

namespace Sys2Proof.Machine

/-- FEC.CHAR, its result recorded (R214). -/
def fecCall (d : BitVec 7) (s : State) : State :=
  let (s, c, ok) := fecChar s.params d s
  s.setRet (.charOk c ok)

/-- A 4-of-7 code word: FEC.CHAR of the code where that decoder is at work (R44, R214, R304; log 3). -/
def fecWord (d : BitVec 7) (s : State) : State := codeWord .ccir476 (fecCall d) s

/-- 7-bit code 0x00 (R214). -/
def execFecCode00 (s : State) : Host.Outcome State Fault Refusal := .next (fecWord 0x00 s)

/-- 7-bit code 0x01 (R214). -/
def execFecCode01 (s : State) : Host.Outcome State Fault Refusal := .next (fecWord 0x01 s)

/-- 7-bit code 0x02 (R214). -/
def execFecCode02 (s : State) : Host.Outcome State Fault Refusal := .next (fecWord 0x02 s)

/-- 7-bit code 0x03 (R214). -/
def execFecCode03 (s : State) : Host.Outcome State Fault Refusal := .next (fecWord 0x03 s)

/-- 7-bit code 0x04 (R214). -/
def execFecCode04 (s : State) : Host.Outcome State Fault Refusal := .next (fecWord 0x04 s)

/-- 7-bit code 0x05 (R214). -/
def execFecCode05 (s : State) : Host.Outcome State Fault Refusal := .next (fecWord 0x05 s)

/-- 7-bit code 0x06 (R214). -/
def execFecCode06 (s : State) : Host.Outcome State Fault Refusal := .next (fecWord 0x06 s)

/-- 7-bit code 0x07 (R214). -/
def execFecCode07 (s : State) : Host.Outcome State Fault Refusal := .next (fecWord 0x07 s)

/-- 7-bit code 0x08 (R214). -/
def execFecCode08 (s : State) : Host.Outcome State Fault Refusal := .next (fecWord 0x08 s)

/-- 7-bit code 0x09 (R214). -/
def execFecCode09 (s : State) : Host.Outcome State Fault Refusal := .next (fecWord 0x09 s)

/-- 7-bit code 0x0A (R214). -/
def execFecCode0A (s : State) : Host.Outcome State Fault Refusal := .next (fecWord 0x0A s)

/-- 7-bit code 0x0B (R214). -/
def execFecCode0B (s : State) : Host.Outcome State Fault Refusal := .next (fecWord 0x0B s)

/-- 7-bit code 0x0C (R214). -/
def execFecCode0C (s : State) : Host.Outcome State Fault Refusal := .next (fecWord 0x0C s)

/-- 7-bit code 0x0D (R214). -/
def execFecCode0D (s : State) : Host.Outcome State Fault Refusal := .next (fecWord 0x0D s)

/-- 7-bit code 0x0E (R214). -/
def execFecCode0E (s : State) : Host.Outcome State Fault Refusal := .next (fecWord 0x0E s)

/-- 7-bit code 0x0F (R215). -/
def execFecCode0F (s : State) : Host.Outcome State Fault Refusal := .next (fecWord 0x0F s)

/-- 7-bit code 0x10 (R214). -/
def execFecCode10 (s : State) : Host.Outcome State Fault Refusal := .next (fecWord 0x10 s)

/-- 7-bit code 0x11 (R214). -/
def execFecCode11 (s : State) : Host.Outcome State Fault Refusal := .next (fecWord 0x11 s)

/-- 7-bit code 0x12 (R214). -/
def execFecCode12 (s : State) : Host.Outcome State Fault Refusal := .next (fecWord 0x12 s)

/-- 7-bit code 0x13 (R214). -/
def execFecCode13 (s : State) : Host.Outcome State Fault Refusal := .next (fecWord 0x13 s)

/-- 7-bit code 0x14 (R214). -/
def execFecCode14 (s : State) : Host.Outcome State Fault Refusal := .next (fecWord 0x14 s)

/-- 7-bit code 0x15 (R214). -/
def execFecCode15 (s : State) : Host.Outcome State Fault Refusal := .next (fecWord 0x15 s)

/-- 7-bit code 0x16 (R214). -/
def execFecCode16 (s : State) : Host.Outcome State Fault Refusal := .next (fecWord 0x16 s)

/-- 7-bit code 0x17 (R215). -/
def execFecCode17 (s : State) : Host.Outcome State Fault Refusal := .next (fecWord 0x17 s)

/-- 7-bit code 0x18 (R214). -/
def execFecCode18 (s : State) : Host.Outcome State Fault Refusal := .next (fecWord 0x18 s)

/-- 7-bit code 0x19 (R214). -/
def execFecCode19 (s : State) : Host.Outcome State Fault Refusal := .next (fecWord 0x19 s)

/-- 7-bit code 0x1A (R214). -/
def execFecCode1A (s : State) : Host.Outcome State Fault Refusal := .next (fecWord 0x1A s)

/-- 7-bit code 0x1B (R215). -/
def execFecCode1B (s : State) : Host.Outcome State Fault Refusal := .next (fecWord 0x1B s)

/-- 7-bit code 0x1C (R214). -/
def execFecCode1C (s : State) : Host.Outcome State Fault Refusal := .next (fecWord 0x1C s)

/-- 7-bit code 0x1D (R215). -/
def execFecCode1D (s : State) : Host.Outcome State Fault Refusal := .next (fecWord 0x1D s)

/-- 7-bit code 0x1E (R215). -/
def execFecCode1E (s : State) : Host.Outcome State Fault Refusal := .next (fecWord 0x1E s)

/-- 7-bit code 0x1F (R214). -/
def execFecCode1F (s : State) : Host.Outcome State Fault Refusal := .next (fecWord 0x1F s)

/-- 7-bit code 0x20 (R214). -/
def execFecCode20 (s : State) : Host.Outcome State Fault Refusal := .next (fecWord 0x20 s)

/-- 7-bit code 0x21 (R214). -/
def execFecCode21 (s : State) : Host.Outcome State Fault Refusal := .next (fecWord 0x21 s)

/-- 7-bit code 0x22 (R214). -/
def execFecCode22 (s : State) : Host.Outcome State Fault Refusal := .next (fecWord 0x22 s)

/-- 7-bit code 0x23 (R214). -/
def execFecCode23 (s : State) : Host.Outcome State Fault Refusal := .next (fecWord 0x23 s)

/-- 7-bit code 0x24 (R214). -/
def execFecCode24 (s : State) : Host.Outcome State Fault Refusal := .next (fecWord 0x24 s)

/-- 7-bit code 0x25 (R214). -/
def execFecCode25 (s : State) : Host.Outcome State Fault Refusal := .next (fecWord 0x25 s)

/-- 7-bit code 0x26 (R214). -/
def execFecCode26 (s : State) : Host.Outcome State Fault Refusal := .next (fecWord 0x26 s)

/-- 7-bit code 0x27 (R215). -/
def execFecCode27 (s : State) : Host.Outcome State Fault Refusal := .next (fecWord 0x27 s)

/-- 7-bit code 0x28 (R214). -/
def execFecCode28 (s : State) : Host.Outcome State Fault Refusal := .next (fecWord 0x28 s)

/-- 7-bit code 0x29 (R214). -/
def execFecCode29 (s : State) : Host.Outcome State Fault Refusal := .next (fecWord 0x29 s)

/-- 7-bit code 0x2A (R214). -/
def execFecCode2A (s : State) : Host.Outcome State Fault Refusal := .next (fecWord 0x2A s)

/-- 7-bit code 0x2B (R215). -/
def execFecCode2B (s : State) : Host.Outcome State Fault Refusal := .next (fecWord 0x2B s)

/-- 7-bit code 0x2C (R214). -/
def execFecCode2C (s : State) : Host.Outcome State Fault Refusal := .next (fecWord 0x2C s)

/-- 7-bit code 0x2D (R215). -/
def execFecCode2D (s : State) : Host.Outcome State Fault Refusal := .next (fecWord 0x2D s)

/-- 7-bit code 0x2E (R215). -/
def execFecCode2E (s : State) : Host.Outcome State Fault Refusal := .next (fecWord 0x2E s)

/-- 7-bit code 0x2F (R214). -/
def execFecCode2F (s : State) : Host.Outcome State Fault Refusal := .next (fecWord 0x2F s)

/-- 7-bit code 0x30 (R214). -/
def execFecCode30 (s : State) : Host.Outcome State Fault Refusal := .next (fecWord 0x30 s)

/-- 7-bit code 0x31 (R214). -/
def execFecCode31 (s : State) : Host.Outcome State Fault Refusal := .next (fecWord 0x31 s)

/-- 7-bit code 0x32 (R214). -/
def execFecCode32 (s : State) : Host.Outcome State Fault Refusal := .next (fecWord 0x32 s)

/-- 7-bit code 0x33 (R215). -/
def execFecCode33 (s : State) : Host.Outcome State Fault Refusal := .next (fecWord 0x33 s)

/-- 7-bit code 0x34 (R214). -/
def execFecCode34 (s : State) : Host.Outcome State Fault Refusal := .next (fecWord 0x34 s)

/-- 7-bit code 0x35 (R215). -/
def execFecCode35 (s : State) : Host.Outcome State Fault Refusal := .next (fecWord 0x35 s)

/-- 7-bit code 0x36 (R215). -/
def execFecCode36 (s : State) : Host.Outcome State Fault Refusal := .next (fecWord 0x36 s)

/-- 7-bit code 0x37 (R214). -/
def execFecCode37 (s : State) : Host.Outcome State Fault Refusal := .next (fecWord 0x37 s)

/-- 7-bit code 0x38 (R214). -/
def execFecCode38 (s : State) : Host.Outcome State Fault Refusal := .next (fecWord 0x38 s)

/-- 7-bit code 0x39 (R215). -/
def execFecCode39 (s : State) : Host.Outcome State Fault Refusal := .next (fecWord 0x39 s)

/-- 7-bit code 0x3A (R215). -/
def execFecCode3A (s : State) : Host.Outcome State Fault Refusal := .next (fecWord 0x3A s)

/-- 7-bit code 0x3B (R214). -/
def execFecCode3B (s : State) : Host.Outcome State Fault Refusal := .next (fecWord 0x3B s)

/-- 7-bit code 0x3C (R215). -/
def execFecCode3C (s : State) : Host.Outcome State Fault Refusal := .next (fecWord 0x3C s)

/-- 7-bit code 0x3D (R214). -/
def execFecCode3D (s : State) : Host.Outcome State Fault Refusal := .next (fecWord 0x3D s)

/-- 7-bit code 0x3E (R214). -/
def execFecCode3E (s : State) : Host.Outcome State Fault Refusal := .next (fecWord 0x3E s)

/-- 7-bit code 0x3F (R214). -/
def execFecCode3F (s : State) : Host.Outcome State Fault Refusal := .next (fecWord 0x3F s)

/-- 7-bit code 0x40 (R214). -/
def execFecCode40 (s : State) : Host.Outcome State Fault Refusal := .next (fecWord 0x40 s)

/-- 7-bit code 0x41 (R214). -/
def execFecCode41 (s : State) : Host.Outcome State Fault Refusal := .next (fecWord 0x41 s)

/-- 7-bit code 0x42 (R214). -/
def execFecCode42 (s : State) : Host.Outcome State Fault Refusal := .next (fecWord 0x42 s)

/-- 7-bit code 0x43 (R214). -/
def execFecCode43 (s : State) : Host.Outcome State Fault Refusal := .next (fecWord 0x43 s)

/-- 7-bit code 0x44 (R214). -/
def execFecCode44 (s : State) : Host.Outcome State Fault Refusal := .next (fecWord 0x44 s)

/-- 7-bit code 0x45 (R214). -/
def execFecCode45 (s : State) : Host.Outcome State Fault Refusal := .next (fecWord 0x45 s)

/-- 7-bit code 0x46 (R214). -/
def execFecCode46 (s : State) : Host.Outcome State Fault Refusal := .next (fecWord 0x46 s)

/-- 7-bit code 0x47 (R215). -/
def execFecCode47 (s : State) : Host.Outcome State Fault Refusal := .next (fecWord 0x47 s)

/-- 7-bit code 0x48 (R214). -/
def execFecCode48 (s : State) : Host.Outcome State Fault Refusal := .next (fecWord 0x48 s)

/-- 7-bit code 0x49 (R214). -/
def execFecCode49 (s : State) : Host.Outcome State Fault Refusal := .next (fecWord 0x49 s)

/-- 7-bit code 0x4A (R214). -/
def execFecCode4A (s : State) : Host.Outcome State Fault Refusal := .next (fecWord 0x4A s)

/-- 7-bit code 0x4B (R215). -/
def execFecCode4B (s : State) : Host.Outcome State Fault Refusal := .next (fecWord 0x4B s)

/-- 7-bit code 0x4C (R214). -/
def execFecCode4C (s : State) : Host.Outcome State Fault Refusal := .next (fecWord 0x4C s)

/-- 7-bit code 0x4D (R215). -/
def execFecCode4D (s : State) : Host.Outcome State Fault Refusal := .next (fecWord 0x4D s)

/-- 7-bit code 0x4E (R215). -/
def execFecCode4E (s : State) : Host.Outcome State Fault Refusal := .next (fecWord 0x4E s)

/-- 7-bit code 0x4F (R214). -/
def execFecCode4F (s : State) : Host.Outcome State Fault Refusal := .next (fecWord 0x4F s)

/-- 7-bit code 0x50 (R214). -/
def execFecCode50 (s : State) : Host.Outcome State Fault Refusal := .next (fecWord 0x50 s)

/-- 7-bit code 0x51 (R214). -/
def execFecCode51 (s : State) : Host.Outcome State Fault Refusal := .next (fecWord 0x51 s)

/-- 7-bit code 0x52 (R214). -/
def execFecCode52 (s : State) : Host.Outcome State Fault Refusal := .next (fecWord 0x52 s)

/-- 7-bit code 0x53 (R215). -/
def execFecCode53 (s : State) : Host.Outcome State Fault Refusal := .next (fecWord 0x53 s)

/-- 7-bit code 0x54 (R214). -/
def execFecCode54 (s : State) : Host.Outcome State Fault Refusal := .next (fecWord 0x54 s)

/-- 7-bit code 0x55 (R215). -/
def execFecCode55 (s : State) : Host.Outcome State Fault Refusal := .next (fecWord 0x55 s)

/-- 7-bit code 0x56 (R215). -/
def execFecCode56 (s : State) : Host.Outcome State Fault Refusal := .next (fecWord 0x56 s)

/-- 7-bit code 0x57 (R214). -/
def execFecCode57 (s : State) : Host.Outcome State Fault Refusal := .next (fecWord 0x57 s)

/-- 7-bit code 0x58 (R214). -/
def execFecCode58 (s : State) : Host.Outcome State Fault Refusal := .next (fecWord 0x58 s)

/-- 7-bit code 0x59 (R215). -/
def execFecCode59 (s : State) : Host.Outcome State Fault Refusal := .next (fecWord 0x59 s)

/-- 7-bit code 0x5A (R215). -/
def execFecCode5A (s : State) : Host.Outcome State Fault Refusal := .next (fecWord 0x5A s)

/-- 7-bit code 0x5B (R214). -/
def execFecCode5B (s : State) : Host.Outcome State Fault Refusal := .next (fecWord 0x5B s)

/-- 7-bit code 0x5C (R215). -/
def execFecCode5C (s : State) : Host.Outcome State Fault Refusal := .next (fecWord 0x5C s)

/-- 7-bit code 0x5D (R214). -/
def execFecCode5D (s : State) : Host.Outcome State Fault Refusal := .next (fecWord 0x5D s)

/-- 7-bit code 0x5E (R214). -/
def execFecCode5E (s : State) : Host.Outcome State Fault Refusal := .next (fecWord 0x5E s)

/-- 7-bit code 0x5F (R214). -/
def execFecCode5F (s : State) : Host.Outcome State Fault Refusal := .next (fecWord 0x5F s)

/-- 7-bit code 0x60 (R214). -/
def execFecCode60 (s : State) : Host.Outcome State Fault Refusal := .next (fecWord 0x60 s)

/-- 7-bit code 0x61 (R214). -/
def execFecCode61 (s : State) : Host.Outcome State Fault Refusal := .next (fecWord 0x61 s)

/-- 7-bit code 0x62 (R214). -/
def execFecCode62 (s : State) : Host.Outcome State Fault Refusal := .next (fecWord 0x62 s)

/-- 7-bit code 0x63 (R215). -/
def execFecCode63 (s : State) : Host.Outcome State Fault Refusal := .next (fecWord 0x63 s)

/-- 7-bit code 0x64 (R214). -/
def execFecCode64 (s : State) : Host.Outcome State Fault Refusal := .next (fecWord 0x64 s)

/-- 7-bit code 0x65 (R215). -/
def execFecCode65 (s : State) : Host.Outcome State Fault Refusal := .next (fecWord 0x65 s)

/-- 7-bit code 0x66 (R215). -/
def execFecCode66 (s : State) : Host.Outcome State Fault Refusal := .next (fecWord 0x66 s)

/-- 7-bit code 0x67 (R214). -/
def execFecCode67 (s : State) : Host.Outcome State Fault Refusal := .next (fecWord 0x67 s)

/-- 7-bit code 0x68 (R214). -/
def execFecCode68 (s : State) : Host.Outcome State Fault Refusal := .next (fecWord 0x68 s)

/-- 7-bit code 0x69 (R215). -/
def execFecCode69 (s : State) : Host.Outcome State Fault Refusal := .next (fecWord 0x69 s)

/-- 7-bit code 0x6A (R215). -/
def execFecCode6A (s : State) : Host.Outcome State Fault Refusal := .next (fecWord 0x6A s)

/-- 7-bit code 0x6B (R214). -/
def execFecCode6B (s : State) : Host.Outcome State Fault Refusal := .next (fecWord 0x6B s)

/-- 7-bit code 0x6C (R215). -/
def execFecCode6C (s : State) : Host.Outcome State Fault Refusal := .next (fecWord 0x6C s)

/-- 7-bit code 0x6D (R214). -/
def execFecCode6D (s : State) : Host.Outcome State Fault Refusal := .next (fecWord 0x6D s)

/-- 7-bit code 0x6E (R214). -/
def execFecCode6E (s : State) : Host.Outcome State Fault Refusal := .next (fecWord 0x6E s)

/-- 7-bit code 0x6F (R214). -/
def execFecCode6F (s : State) : Host.Outcome State Fault Refusal := .next (fecWord 0x6F s)

/-- 7-bit code 0x70 (R214). -/
def execFecCode70 (s : State) : Host.Outcome State Fault Refusal := .next (fecWord 0x70 s)

/-- 7-bit code 0x71 (R215). -/
def execFecCode71 (s : State) : Host.Outcome State Fault Refusal := .next (fecWord 0x71 s)

/-- 7-bit code 0x72 (R215). -/
def execFecCode72 (s : State) : Host.Outcome State Fault Refusal := .next (fecWord 0x72 s)

/-- 7-bit code 0x73 (R214). -/
def execFecCode73 (s : State) : Host.Outcome State Fault Refusal := .next (fecWord 0x73 s)

/-- 7-bit code 0x74 (R215). -/
def execFecCode74 (s : State) : Host.Outcome State Fault Refusal := .next (fecWord 0x74 s)

/-- 7-bit code 0x75 (R214). -/
def execFecCode75 (s : State) : Host.Outcome State Fault Refusal := .next (fecWord 0x75 s)

/-- 7-bit code 0x76 (R214). -/
def execFecCode76 (s : State) : Host.Outcome State Fault Refusal := .next (fecWord 0x76 s)

/-- 7-bit code 0x77 (R214). -/
def execFecCode77 (s : State) : Host.Outcome State Fault Refusal := .next (fecWord 0x77 s)

/-- 7-bit code 0x78 (R215). -/
def execFecCode78 (s : State) : Host.Outcome State Fault Refusal := .next (fecWord 0x78 s)

/-- 7-bit code 0x79 (R214). -/
def execFecCode79 (s : State) : Host.Outcome State Fault Refusal := .next (fecWord 0x79 s)

/-- 7-bit code 0x7A (R214). -/
def execFecCode7A (s : State) : Host.Outcome State Fault Refusal := .next (fecWord 0x7A s)

/-- 7-bit code 0x7B (R214). -/
def execFecCode7B (s : State) : Host.Outcome State Fault Refusal := .next (fecWord 0x7B s)

/-- 7-bit code 0x7C (R214). -/
def execFecCode7C (s : State) : Host.Outcome State Fault Refusal := .next (fecWord 0x7C s)

/-- 7-bit code 0x7D (R214). -/
def execFecCode7D (s : State) : Host.Outcome State Fault Refusal := .next (fecWord 0x7D s)

/-- 7-bit code 0x7E (R214). -/
def execFecCode7E (s : State) : Host.Outcome State Fault Refusal := .next (fecWord 0x7E s)

/-- 7-bit code 0x7F (R214). -/
def execFecCode7F (s : State) : Host.Outcome State Fault Refusal := .next (fecWord 0x7F s)

end Sys2Proof.Machine
end

