-- ==== Sys2Proof/Machine/Frames.lean ====
section
/-! DEFINITION. The meanings of the received frames (R84 to R89, R93): the `T` symbol bits of the frame arrive one after
another, first-received bit first, while a signal is present (DESIGN CHOICE, log 2). -/

namespace Sys2Proof.Machine

/-- A valid frame of a framing is received. -/
def receiveFrame (spec : FramingSpec) (data : Nat) (s : State) : State :=
  receiveCode s.params spec.totalBits (encodeFrame spec data) s

/-- A word that is no valid frame of the framing is received: an illegal pattern of R93, no trap. -/
def receiveIllegal (spec : FramingSpec) (w : RawCode) (s : State) : State :=
  receiveCode s.params spec.totalBits w s

/-- Framing `5N1`, pattern `1edcba0` (R89). -/
def execFrame5N1 (data : BitVec 5) (s : State) : Host.Outcome State Fault Refusal :=
  .next (receiveFrame (.async .five .one false) data.toNat s)

/-- Framing `5N1EFR`, pattern `1edcba0` (R89). -/
def execFrame5N1Efr (data : BitVec 5) (s : State) : Host.Outcome State Fault Refusal :=
  .next (receiveFrame (.async .five .one true) data.toNat s)

/-- Framing `5N2`, pattern `11edcba0` (R89). -/
def execFrame5N2 (data : BitVec 5) (s : State) : Host.Outcome State Fault Refusal :=
  .next (receiveFrame (.async .five .two false) data.toNat s)

/-- Framing `5N2EFR`, pattern `11edcba0` (R89). -/
def execFrame5N2Efr (data : BitVec 5) (s : State) : Host.Outcome State Fault Refusal :=
  .next (receiveFrame (.async .five .two true) data.toNat s)

/-- Framing `5N1.5`, pattern `111eeddccbbaa00` (R89). -/
def execFrame5N15 (data : BitVec 5) (s : State) : Host.Outcome State Fault Refusal :=
  .next (receiveFrame (.async .five .oneAndHalf false) data.toNat s)

/-- Framing `5N1.5EFR`, pattern `111eeddccbbaa00` (R89). -/
def execFrame5N15Efr (data : BitVec 5) (s : State) : Host.Outcome State Fault Refusal :=
  .next (receiveFrame (.async .five .oneAndHalf true) data.toNat s)

/-- Framing `7N1`, pattern `1gfedcba0` (R89). -/
def execFrame7N1 (data : BitVec 7) (s : State) : Host.Outcome State Fault Refusal :=
  .next (receiveFrame (.async .seven .one false) data.toNat s)

/-- Framing `7N1EFR`, pattern `1gfedcba0` (R89). -/
def execFrame7N1Efr (data : BitVec 7) (s : State) : Host.Outcome State Fault Refusal :=
  .next (receiveFrame (.async .seven .one true) data.toNat s)

/-- Framing `7N2`, pattern `11gfedcba0` (R89). -/
def execFrame7N2 (data : BitVec 7) (s : State) : Host.Outcome State Fault Refusal :=
  .next (receiveFrame (.async .seven .two false) data.toNat s)

/-- Framing `7N2EFR`, pattern `11gfedcba0` (R89). -/
def execFrame7N2Efr (data : BitVec 7) (s : State) : Host.Outcome State Fault Refusal :=
  .next (receiveFrame (.async .seven .two true) data.toNat s)

/-- Framing `7N1.5`, pattern `111ggffeeddccbbaa00` (R89). -/
def execFrame7N15 (data : BitVec 7) (s : State) : Host.Outcome State Fault Refusal :=
  .next (receiveFrame (.async .seven .oneAndHalf false) data.toNat s)

/-- Framing `7N1.5EFR`, pattern `111ggffeeddccbbaa00` (R89). -/
def execFrame7N15Efr (data : BitVec 7) (s : State) : Host.Outcome State Fault Refusal :=
  .next (receiveFrame (.async .seven .oneAndHalf true) data.toNat s)

/-- Framing `8N1`, pattern `1hgfedcba0` (R89). -/
def execFrame8N1 (data : BitVec 8) (s : State) : Host.Outcome State Fault Refusal :=
  .next (receiveFrame (.async .eight .one false) data.toNat s)

/-- Framing `8N1EFR`, pattern `1hgfedcba0` (R89). -/
def execFrame8N1Efr (data : BitVec 8) (s : State) : Host.Outcome State Fault Refusal :=
  .next (receiveFrame (.async .eight .one true) data.toNat s)

/-- Framing `8N2`, pattern `11hgfedcba0` (R89). -/
def execFrame8N2 (data : BitVec 8) (s : State) : Host.Outcome State Fault Refusal :=
  .next (receiveFrame (.async .eight .two false) data.toNat s)

/-- Framing `8N2EFR`, pattern `11hgfedcba0` (R89). -/
def execFrame8N2Efr (data : BitVec 8) (s : State) : Host.Outcome State Fault Refusal :=
  .next (receiveFrame (.async .eight .two true) data.toNat s)

/-- Framing `8N1.5`, pattern `111hhggffeeddccbbaa00` (R89). -/
def execFrame8N15 (data : BitVec 8) (s : State) : Host.Outcome State Fault Refusal :=
  .next (receiveFrame (.async .eight .oneAndHalf false) data.toNat s)

/-- Framing `8N1.5EFR`, pattern `111hhggffeeddccbbaa00` (R89). -/
def execFrame8N15Efr (data : BitVec 8) (s : State) : Host.Outcome State Fault Refusal :=
  .next (receiveFrame (.async .eight .oneAndHalf true) data.toNat s)

/-- Framing `4/7`, pattern `gfedcba` (R88, R89). -/
def execFrame4of7 (data : BitVec 7) (s : State) : Host.Outcome State Fault Refusal :=
  .next (receiveFrame .fourOfSeven data.toNat s)

end Sys2Proof.Machine
end

