-- ==== Sys2Proof/Machine/Internal.lean ====
section
/-! DEFINITION. The meanings of the internal operations (R100), each run on its own on the state: an operation that
returns a value records it in `ret` (log 4, log 5). -/

namespace Sys2Proof.Machine

/-- `FILT.CFG` (R112). -/
def execFiltCfg (f : SectionName) (kind : SectionKind) (targetFreq : Rat) (sampleRate : Nat) (q : Resonance) (s : State) :
    Host.Outcome State Fault Refusal :=
  .next (filtCfg s.params f kind targetFreq sampleRate q s)

/-- `FILT.RST` (R115). -/
def execFiltRst (f : SectionName) (s : State) :
    Host.Outcome State Fault Refusal :=
  .next (filtRst s.params f s)

/-- `FILT.RUN` (R116). -/
def execFiltRun (f : SectionName) (x : Number) (s : State) :
    Host.Outcome State Fault Refusal :=
  let (s, y) := filtRun s.params f x s
  .next (s.setRet (.number y))

/-- `BITX.LEVEL` (R130). -/
def execBitxLevel (sample : Sample) (s : State) :
    Host.Outcome State Fault Refusal :=
  .next (bitxLevel s.params sample s)

/-- `BITX.ACC` (R135). -/
def execBitxAcc (s : State) :
    Host.Outcome State Fault Refusal :=
  .next (bitxAcc s)

/-- `BITX.ZC` (R137). -/
def execBitxZc (s : State) :
    Host.Outcome State Fault Refusal :=
  .next (bitxZc s.params s)

/-- `BITX.CORR` (R139). -/
def execBitxCorr (s : State) :
    Host.Outcome State Fault Refusal :=
  .next (bitxCorr s.params s)

/-- `BITX.DUMP` (R142). -/
def execBitxDump (s : State) :
    Host.Outcome State Fault Refusal :=
  .next (bitxDump s)

/-- `SYNC.SQL` (R160). -/
def execSyncSql (signalPresent : Bool) (s : State) :
    Host.Outcome State Fault Refusal :=
  .next (syncSql s.params signalPresent s)

/-- `SYNC.BIT` (R163). -/
def execSyncBit (bit : Bool) (s : State) :
    Host.Outcome State Fault Refusal :=
  .next (syncBit s.params bit s)

/-- `FRM.PARSE` (R191). -/
def execFrmParse (spec : PortText) (s : State) :
    Host.Outcome State Fault Refusal :=
  .next (s.setRet (.descriptor (frmParse spec)))

/-- `FRM.CHECK` (R194). -/
def execFrmCheck (code : RawCode) (s : State) :
    Host.Outcome State Fault Refusal :=
  .next (s.setRet (.flag (frmCheck s.cfg.desc code)))

/-- `FRM.CHECK__doubled` (R195). -/
def execFrmCheckDoubled (code : RawCode) (s : State) :
    Host.Outcome State Fault Refusal :=
  .next (s.setRet (.flag (frmCheckDoubled s.cfg.desc code)))

/-- `FRM.EXTRACT` (R196). -/
def execFrmExtract (code : RawCode) (s : State) :
    Host.Outcome State Fault Refusal :=
  .next (s.setRet (.data (frmExtract s.cfg.desc code)))

/-- `DEC.CHECK` (R197). -/
def execDecCheck (code : RawCode) (s : State) :
    Host.Outcome State Fault Refusal :=
  .next (s.setRet (.flag (decCheck s code)))

/-- `DEC.CHAR` (R198). -/
def execDecChar (code : RawCode) (s : State) :
    Host.Outcome State Fault Refusal :=
  let (s, c, ok) := decChar s.params code s
  .next (s.setRet (.charOk c ok))

/-- `DEC.RST` (R199). -/
def execDecRst (s : State) :
    Host.Outcome State Fault Refusal :=
  .next (decRst s)

/-- `FEC.CHECK` (R211). -/
def execFecCheck (d : BitVec 7) (s : State) :
    Host.Outcome State Fault Refusal :=
  .next (s.setRet (.flag (fecCheck d)))

/-- `FEC.CHAR` (R214). -/
def execFecChar (d : BitVec 7) (s : State) :
    Host.Outcome State Fault Refusal :=
  let (s, c, ok) := fecChar s.params d s
  .next (s.setRet (.charOk c ok))

/-- `FEC.RST` (R216). -/
def execFecRst (s : State) :
    Host.Outcome State Fault Refusal :=
  .next (fecRst s)

/-- `ITA2.CHECK` (R231). -/
def execIta2Check (d : BitVec 5) (s : State) :
    Host.Outcome State Fault Refusal :=
  .next (s.setRet (.flag (ita2Check d)))

/-- `ITA2.CHAR` (R233). -/
def execIta2Char (d : BitVec 5) (s : State) :
    Host.Outcome State Fault Refusal :=
  let (s, c) := ita2Char s.params d s
  .next (s.setRet (.char c))

/-- `ITA2.RST` (R235). -/
def execIta2Rst (s : State) :
    Host.Outcome State Fault Refusal :=
  .next (ita2Rst s)

/-- `ASC.CHECK` (R251). -/
def execAscCheck (d : DataCode) (s : State) :
    Host.Outcome State Fault Refusal :=
  .next (s.setRet (.flag (ascCheck d)))

/-- `ASC.CHAR` (R252). -/
def execAscChar (d : DataCode) (s : State) :
    Host.Outcome State Fault Refusal :=
  .next (ascCall d s)

/-- `ASC.RST` (R253). -/
def execAscRst (s : State) :
    Host.Outcome State Fault Refusal :=
  .next (ascRst s)

/-- `GETNBITS` (R193). -/
def execGetNBits (s : State) :
    Host.Outcome State Fault Refusal :=
  .next (s.setRet (.count (getNBits s)))

/-- `GETMSB` (R193). -/
def execGetMsb (s : State) :
    Host.Outcome State Fault Refusal :=
  .next (s.setRet (.mask (getMsb s)))

/-- `SAMPLE_STEP` (R270). -/
def execSampleStep (sample : Sample) (s : State) :
    Host.Outcome State Fault Refusal :=
  .next (sampleStep s.params sample s)

end Sys2Proof.Machine
end

