-- ==== Sys2Proof/Machine/Ita2Codes.lean ====
section
/-! DEFINITION. The meanings of the 32 ITA2 code words: ITA2.CHAR of the code (R90, R233); the character is the value
returned (log 3). A decoder that is not selected, or idle, is never touched (R44, R304). -/

namespace Sys2Proof.Machine

/-- ITA2.CHAR, its result recorded (R233). -/
def ita2Call (d : BitVec 5) (s : State) : State :=
  let (s, c) := ita2Char s.params d s
  s.setRet (.char c)

/-- An ITA2 code word: ITA2.CHAR of the code where that decoder is at work (R44, R233, R304; log 3). -/
def ita2Word (d : BitVec 5) (s : State) : State := codeWord .ita2 (ita2Call d) s

/-- 5-bit code 0x00 (R233, R236). -/
def execIta2Code00 (s : State) : Host.Outcome State Fault Refusal := .next (ita2Word 0x00 s)

/-- 5-bit code 0x01 (R233, R236). -/
def execIta2Code01 (s : State) : Host.Outcome State Fault Refusal := .next (ita2Word 0x01 s)

/-- 5-bit code 0x02 (R233, R236). -/
def execIta2Code02 (s : State) : Host.Outcome State Fault Refusal := .next (ita2Word 0x02 s)

/-- 5-bit code 0x03 (R233, R236). -/
def execIta2Code03 (s : State) : Host.Outcome State Fault Refusal := .next (ita2Word 0x03 s)

/-- 5-bit code 0x04 (R233, R236). -/
def execIta2Code04 (s : State) : Host.Outcome State Fault Refusal := .next (ita2Word 0x04 s)

/-- 5-bit code 0x05 (R233, R236). -/
def execIta2Code05 (s : State) : Host.Outcome State Fault Refusal := .next (ita2Word 0x05 s)

/-- 5-bit code 0x06 (R233, R236). -/
def execIta2Code06 (s : State) : Host.Outcome State Fault Refusal := .next (ita2Word 0x06 s)

/-- 5-bit code 0x07 (R233, R236). -/
def execIta2Code07 (s : State) : Host.Outcome State Fault Refusal := .next (ita2Word 0x07 s)

/-- 5-bit code 0x08 (R233, R236). -/
def execIta2Code08 (s : State) : Host.Outcome State Fault Refusal := .next (ita2Word 0x08 s)

/-- 5-bit code 0x09 (R233, R236). -/
def execIta2Code09 (s : State) : Host.Outcome State Fault Refusal := .next (ita2Word 0x09 s)

/-- 5-bit code 0x0A (R233, R236). -/
def execIta2Code0A (s : State) : Host.Outcome State Fault Refusal := .next (ita2Word 0x0A s)

/-- 5-bit code 0x0B (R233, R236). -/
def execIta2Code0B (s : State) : Host.Outcome State Fault Refusal := .next (ita2Word 0x0B s)

/-- 5-bit code 0x0C (R233, R236). -/
def execIta2Code0C (s : State) : Host.Outcome State Fault Refusal := .next (ita2Word 0x0C s)

/-- 5-bit code 0x0D (R233, R236). -/
def execIta2Code0D (s : State) : Host.Outcome State Fault Refusal := .next (ita2Word 0x0D s)

/-- 5-bit code 0x0E (R233, R236). -/
def execIta2Code0E (s : State) : Host.Outcome State Fault Refusal := .next (ita2Word 0x0E s)

/-- 5-bit code 0x0F (R233, R236). -/
def execIta2Code0F (s : State) : Host.Outcome State Fault Refusal := .next (ita2Word 0x0F s)

/-- 5-bit code 0x10 (R233, R236). -/
def execIta2Code10 (s : State) : Host.Outcome State Fault Refusal := .next (ita2Word 0x10 s)

/-- 5-bit code 0x11 (R233, R236). -/
def execIta2Code11 (s : State) : Host.Outcome State Fault Refusal := .next (ita2Word 0x11 s)

/-- 5-bit code 0x12 (R233, R236). -/
def execIta2Code12 (s : State) : Host.Outcome State Fault Refusal := .next (ita2Word 0x12 s)

/-- 5-bit code 0x13 (R233, R236). -/
def execIta2Code13 (s : State) : Host.Outcome State Fault Refusal := .next (ita2Word 0x13 s)

/-- 5-bit code 0x14 (R233, R236). -/
def execIta2Code14 (s : State) : Host.Outcome State Fault Refusal := .next (ita2Word 0x14 s)

/-- 5-bit code 0x15 (R233, R236). -/
def execIta2Code15 (s : State) : Host.Outcome State Fault Refusal := .next (ita2Word 0x15 s)

/-- 5-bit code 0x16 (R233, R236). -/
def execIta2Code16 (s : State) : Host.Outcome State Fault Refusal := .next (ita2Word 0x16 s)

/-- 5-bit code 0x17 (R233, R236). -/
def execIta2Code17 (s : State) : Host.Outcome State Fault Refusal := .next (ita2Word 0x17 s)

/-- 5-bit code 0x18 (R233, R236). -/
def execIta2Code18 (s : State) : Host.Outcome State Fault Refusal := .next (ita2Word 0x18 s)

/-- 5-bit code 0x19 (R233, R236). -/
def execIta2Code19 (s : State) : Host.Outcome State Fault Refusal := .next (ita2Word 0x19 s)

/-- 5-bit code 0x1A (R233, R236). -/
def execIta2Code1A (s : State) : Host.Outcome State Fault Refusal := .next (ita2Word 0x1A s)

/-- 5-bit code 0x1B (R233, R236). -/
def execIta2Code1B (s : State) : Host.Outcome State Fault Refusal := .next (ita2Word 0x1B s)

/-- 5-bit code 0x1C (R233, R236). -/
def execIta2Code1C (s : State) : Host.Outcome State Fault Refusal := .next (ita2Word 0x1C s)

/-- 5-bit code 0x1D (R233, R236). -/
def execIta2Code1D (s : State) : Host.Outcome State Fault Refusal := .next (ita2Word 0x1D s)

/-- 5-bit code 0x1E (R233, R236). -/
def execIta2Code1E (s : State) : Host.Outcome State Fault Refusal := .next (ita2Word 0x1E s)

/-- 5-bit code 0x1F (R233, R236). -/
def execIta2Code1F (s : State) : Host.Outcome State Fault Refusal := .next (ita2Word 0x1F s)

end Sys2Proof.Machine
end

