-- ==== Sys2Proof/Machine/Dispatch.lean ====
section
/-! DEFINITION. One arm per instruction: the direct call of its meaning. -/

namespace Sys2Proof.Machine

def exec (i : Instr) (s : State) : Host.Outcome State Fault Refusal :=
  match i with
  | .nop imm => Sys2Proof.Machine.execNop imm s
  | .construct imm => Sys2Proof.Machine.execConstruct imm s
  | .start imm => Sys2Proof.Machine.execStart imm s
  | .stop imm => Sys2Proof.Machine.execStop imm s
  | .reset imm => Sys2Proof.Machine.execReset imm s
  | .sample imm => Sys2Proof.Machine.execSample imm s
  | .reservedOp6 imm => Sys2Proof.Machine.execReservedOp6 imm s
  | .reservedOp7 imm => Sys2Proof.Machine.execReservedOp7 imm s
  | .reservedOp8 imm => Sys2Proof.Machine.execReservedOp8 imm s
  | .reservedOp9 imm => Sys2Proof.Machine.execReservedOp9 imm s
  | .reservedOpA imm => Sys2Proof.Machine.execReservedOpA imm s
  | .reservedOpB imm => Sys2Proof.Machine.execReservedOpB imm s
  | .reservedOpC imm => Sys2Proof.Machine.execReservedOpC imm s
  | .reservedOpD imm => Sys2Proof.Machine.execReservedOpD imm s
  | .reservedOpE imm => Sys2Proof.Machine.execReservedOpE imm s
  | .reservedOpF imm => Sys2Proof.Machine.execReservedOpF imm s
  | .frame5N1 data => Sys2Proof.Machine.execFrame5N1 data s
  | .frame5N1Efr data => Sys2Proof.Machine.execFrame5N1Efr data s
  | .frame5N2 data => Sys2Proof.Machine.execFrame5N2 data s
  | .frame5N2Efr data => Sys2Proof.Machine.execFrame5N2Efr data s
  | .frame5N15 data => Sys2Proof.Machine.execFrame5N15 data s
  | .frame5N15Efr data => Sys2Proof.Machine.execFrame5N15Efr data s
  | .frame7N1 data => Sys2Proof.Machine.execFrame7N1 data s
  | .frame7N1Efr data => Sys2Proof.Machine.execFrame7N1Efr data s
  | .frame7N2 data => Sys2Proof.Machine.execFrame7N2 data s
  | .frame7N2Efr data => Sys2Proof.Machine.execFrame7N2Efr data s
  | .frame7N15 data => Sys2Proof.Machine.execFrame7N15 data s
  | .frame7N15Efr data => Sys2Proof.Machine.execFrame7N15Efr data s
  | .frame8N1 data => Sys2Proof.Machine.execFrame8N1 data s
  | .frame8N1Efr data => Sys2Proof.Machine.execFrame8N1Efr data s
  | .frame8N2 data => Sys2Proof.Machine.execFrame8N2 data s
  | .frame8N2Efr data => Sys2Proof.Machine.execFrame8N2Efr data s
  | .frame8N15 data => Sys2Proof.Machine.execFrame8N15 data s
  | .frame8N15Efr data => Sys2Proof.Machine.execFrame8N15Efr data s
  | .frame4of7 data => Sys2Proof.Machine.execFrame4of7 data s
  | .ita2Code00 => Sys2Proof.Machine.execIta2Code00 s
  | .ita2Code01 => Sys2Proof.Machine.execIta2Code01 s
  | .ita2Code02 => Sys2Proof.Machine.execIta2Code02 s
  | .ita2Code03 => Sys2Proof.Machine.execIta2Code03 s
  | .ita2Code04 => Sys2Proof.Machine.execIta2Code04 s
  | .ita2Code05 => Sys2Proof.Machine.execIta2Code05 s
  | .ita2Code06 => Sys2Proof.Machine.execIta2Code06 s
  | .ita2Code07 => Sys2Proof.Machine.execIta2Code07 s
  | .ita2Code08 => Sys2Proof.Machine.execIta2Code08 s
  | .ita2Code09 => Sys2Proof.Machine.execIta2Code09 s
  | .ita2Code0A => Sys2Proof.Machine.execIta2Code0A s
  | .ita2Code0B => Sys2Proof.Machine.execIta2Code0B s
  | .ita2Code0C => Sys2Proof.Machine.execIta2Code0C s
  | .ita2Code0D => Sys2Proof.Machine.execIta2Code0D s
  | .ita2Code0E => Sys2Proof.Machine.execIta2Code0E s
  | .ita2Code0F => Sys2Proof.Machine.execIta2Code0F s
  | .ita2Code10 => Sys2Proof.Machine.execIta2Code10 s
  | .ita2Code11 => Sys2Proof.Machine.execIta2Code11 s
  | .ita2Code12 => Sys2Proof.Machine.execIta2Code12 s
  | .ita2Code13 => Sys2Proof.Machine.execIta2Code13 s
  | .ita2Code14 => Sys2Proof.Machine.execIta2Code14 s
  | .ita2Code15 => Sys2Proof.Machine.execIta2Code15 s
  | .ita2Code16 => Sys2Proof.Machine.execIta2Code16 s
  | .ita2Code17 => Sys2Proof.Machine.execIta2Code17 s
  | .ita2Code18 => Sys2Proof.Machine.execIta2Code18 s
  | .ita2Code19 => Sys2Proof.Machine.execIta2Code19 s
  | .ita2Code1A => Sys2Proof.Machine.execIta2Code1A s
  | .ita2Code1B => Sys2Proof.Machine.execIta2Code1B s
  | .ita2Code1C => Sys2Proof.Machine.execIta2Code1C s
  | .ita2Code1D => Sys2Proof.Machine.execIta2Code1D s
  | .ita2Code1E => Sys2Proof.Machine.execIta2Code1E s
  | .ita2Code1F => Sys2Proof.Machine.execIta2Code1F s
  | .fecCode00 => Sys2Proof.Machine.execFecCode00 s
  | .fecCode01 => Sys2Proof.Machine.execFecCode01 s
  | .fecCode02 => Sys2Proof.Machine.execFecCode02 s
  | .fecCode03 => Sys2Proof.Machine.execFecCode03 s
  | .fecCode04 => Sys2Proof.Machine.execFecCode04 s
  | .fecCode05 => Sys2Proof.Machine.execFecCode05 s
  | .fecCode06 => Sys2Proof.Machine.execFecCode06 s
  | .fecCode07 => Sys2Proof.Machine.execFecCode07 s
  | .fecCode08 => Sys2Proof.Machine.execFecCode08 s
  | .fecCode09 => Sys2Proof.Machine.execFecCode09 s
  | .fecCode0A => Sys2Proof.Machine.execFecCode0A s
  | .fecCode0B => Sys2Proof.Machine.execFecCode0B s
  | .fecCode0C => Sys2Proof.Machine.execFecCode0C s
  | .fecCode0D => Sys2Proof.Machine.execFecCode0D s
  | .fecCode0E => Sys2Proof.Machine.execFecCode0E s
  | .fecCode0F => Sys2Proof.Machine.execFecCode0F s
  | .fecCode10 => Sys2Proof.Machine.execFecCode10 s
  | .fecCode11 => Sys2Proof.Machine.execFecCode11 s
  | .fecCode12 => Sys2Proof.Machine.execFecCode12 s
  | .fecCode13 => Sys2Proof.Machine.execFecCode13 s
  | .fecCode14 => Sys2Proof.Machine.execFecCode14 s
  | .fecCode15 => Sys2Proof.Machine.execFecCode15 s
  | .fecCode16 => Sys2Proof.Machine.execFecCode16 s
  | .fecCode17 => Sys2Proof.Machine.execFecCode17 s
  | .fecCode18 => Sys2Proof.Machine.execFecCode18 s
  | .fecCode19 => Sys2Proof.Machine.execFecCode19 s
  | .fecCode1A => Sys2Proof.Machine.execFecCode1A s
  | .fecCode1B => Sys2Proof.Machine.execFecCode1B s
  | .fecCode1C => Sys2Proof.Machine.execFecCode1C s
  | .fecCode1D => Sys2Proof.Machine.execFecCode1D s
  | .fecCode1E => Sys2Proof.Machine.execFecCode1E s
  | .fecCode1F => Sys2Proof.Machine.execFecCode1F s
  | .fecCode20 => Sys2Proof.Machine.execFecCode20 s
  | .fecCode21 => Sys2Proof.Machine.execFecCode21 s
  | .fecCode22 => Sys2Proof.Machine.execFecCode22 s
  | .fecCode23 => Sys2Proof.Machine.execFecCode23 s
  | .fecCode24 => Sys2Proof.Machine.execFecCode24 s
  | .fecCode25 => Sys2Proof.Machine.execFecCode25 s
  | .fecCode26 => Sys2Proof.Machine.execFecCode26 s
  | .fecCode27 => Sys2Proof.Machine.execFecCode27 s
  | .fecCode28 => Sys2Proof.Machine.execFecCode28 s
  | .fecCode29 => Sys2Proof.Machine.execFecCode29 s
  | .fecCode2A => Sys2Proof.Machine.execFecCode2A s
  | .fecCode2B => Sys2Proof.Machine.execFecCode2B s
  | .fecCode2C => Sys2Proof.Machine.execFecCode2C s
  | .fecCode2D => Sys2Proof.Machine.execFecCode2D s
  | .fecCode2E => Sys2Proof.Machine.execFecCode2E s
  | .fecCode2F => Sys2Proof.Machine.execFecCode2F s
  | .fecCode30 => Sys2Proof.Machine.execFecCode30 s
  | .fecCode31 => Sys2Proof.Machine.execFecCode31 s
  | .fecCode32 => Sys2Proof.Machine.execFecCode32 s
  | .fecCode33 => Sys2Proof.Machine.execFecCode33 s
  | .fecCode34 => Sys2Proof.Machine.execFecCode34 s
  | .fecCode35 => Sys2Proof.Machine.execFecCode35 s
  | .fecCode36 => Sys2Proof.Machine.execFecCode36 s
  | .fecCode37 => Sys2Proof.Machine.execFecCode37 s
  | .fecCode38 => Sys2Proof.Machine.execFecCode38 s
  | .fecCode39 => Sys2Proof.Machine.execFecCode39 s
  | .fecCode3A => Sys2Proof.Machine.execFecCode3A s
  | .fecCode3B => Sys2Proof.Machine.execFecCode3B s
  | .fecCode3C => Sys2Proof.Machine.execFecCode3C s
  | .fecCode3D => Sys2Proof.Machine.execFecCode3D s
  | .fecCode3E => Sys2Proof.Machine.execFecCode3E s
  | .fecCode3F => Sys2Proof.Machine.execFecCode3F s
  | .fecCode40 => Sys2Proof.Machine.execFecCode40 s
  | .fecCode41 => Sys2Proof.Machine.execFecCode41 s
  | .fecCode42 => Sys2Proof.Machine.execFecCode42 s
  | .fecCode43 => Sys2Proof.Machine.execFecCode43 s
  | .fecCode44 => Sys2Proof.Machine.execFecCode44 s
  | .fecCode45 => Sys2Proof.Machine.execFecCode45 s
  | .fecCode46 => Sys2Proof.Machine.execFecCode46 s
  | .fecCode47 => Sys2Proof.Machine.execFecCode47 s
  | .fecCode48 => Sys2Proof.Machine.execFecCode48 s
  | .fecCode49 => Sys2Proof.Machine.execFecCode49 s
  | .fecCode4A => Sys2Proof.Machine.execFecCode4A s
  | .fecCode4B => Sys2Proof.Machine.execFecCode4B s
  | .fecCode4C => Sys2Proof.Machine.execFecCode4C s
  | .fecCode4D => Sys2Proof.Machine.execFecCode4D s
  | .fecCode4E => Sys2Proof.Machine.execFecCode4E s
  | .fecCode4F => Sys2Proof.Machine.execFecCode4F s
  | .fecCode50 => Sys2Proof.Machine.execFecCode50 s
  | .fecCode51 => Sys2Proof.Machine.execFecCode51 s
  | .fecCode52 => Sys2Proof.Machine.execFecCode52 s
  | .fecCode53 => Sys2Proof.Machine.execFecCode53 s
  | .fecCode54 => Sys2Proof.Machine.execFecCode54 s
  | .fecCode55 => Sys2Proof.Machine.execFecCode55 s
  | .fecCode56 => Sys2Proof.Machine.execFecCode56 s
  | .fecCode57 => Sys2Proof.Machine.execFecCode57 s
  | .fecCode58 => Sys2Proof.Machine.execFecCode58 s
  | .fecCode59 => Sys2Proof.Machine.execFecCode59 s
  | .fecCode5A => Sys2Proof.Machine.execFecCode5A s
  | .fecCode5B => Sys2Proof.Machine.execFecCode5B s
  | .fecCode5C => Sys2Proof.Machine.execFecCode5C s
  | .fecCode5D => Sys2Proof.Machine.execFecCode5D s
  | .fecCode5E => Sys2Proof.Machine.execFecCode5E s
  | .fecCode5F => Sys2Proof.Machine.execFecCode5F s
  | .fecCode60 => Sys2Proof.Machine.execFecCode60 s
  | .fecCode61 => Sys2Proof.Machine.execFecCode61 s
  | .fecCode62 => Sys2Proof.Machine.execFecCode62 s
  | .fecCode63 => Sys2Proof.Machine.execFecCode63 s
  | .fecCode64 => Sys2Proof.Machine.execFecCode64 s
  | .fecCode65 => Sys2Proof.Machine.execFecCode65 s
  | .fecCode66 => Sys2Proof.Machine.execFecCode66 s
  | .fecCode67 => Sys2Proof.Machine.execFecCode67 s
  | .fecCode68 => Sys2Proof.Machine.execFecCode68 s
  | .fecCode69 => Sys2Proof.Machine.execFecCode69 s
  | .fecCode6A => Sys2Proof.Machine.execFecCode6A s
  | .fecCode6B => Sys2Proof.Machine.execFecCode6B s
  | .fecCode6C => Sys2Proof.Machine.execFecCode6C s
  | .fecCode6D => Sys2Proof.Machine.execFecCode6D s
  | .fecCode6E => Sys2Proof.Machine.execFecCode6E s
  | .fecCode6F => Sys2Proof.Machine.execFecCode6F s
  | .fecCode70 => Sys2Proof.Machine.execFecCode70 s
  | .fecCode71 => Sys2Proof.Machine.execFecCode71 s
  | .fecCode72 => Sys2Proof.Machine.execFecCode72 s
  | .fecCode73 => Sys2Proof.Machine.execFecCode73 s
  | .fecCode74 => Sys2Proof.Machine.execFecCode74 s
  | .fecCode75 => Sys2Proof.Machine.execFecCode75 s
  | .fecCode76 => Sys2Proof.Machine.execFecCode76 s
  | .fecCode77 => Sys2Proof.Machine.execFecCode77 s
  | .fecCode78 => Sys2Proof.Machine.execFecCode78 s
  | .fecCode79 => Sys2Proof.Machine.execFecCode79 s
  | .fecCode7A => Sys2Proof.Machine.execFecCode7A s
  | .fecCode7B => Sys2Proof.Machine.execFecCode7B s
  | .fecCode7C => Sys2Proof.Machine.execFecCode7C s
  | .fecCode7D => Sys2Proof.Machine.execFecCode7D s
  | .fecCode7E => Sys2Proof.Machine.execFecCode7E s
  | .fecCode7F => Sys2Proof.Machine.execFecCode7F s
  | .asciiCode7 code => Sys2Proof.Machine.execAsciiCode7 code s
  | .asciiCode8 code => Sys2Proof.Machine.execAsciiCode8 code s
  | .filtCfg f kind targetFreq sampleRate q => Sys2Proof.Machine.execFiltCfg f kind targetFreq sampleRate q s
  | .filtRst f => Sys2Proof.Machine.execFiltRst f s
  | .filtRun f x => Sys2Proof.Machine.execFiltRun f x s
  | .bitxLevel sample => Sys2Proof.Machine.execBitxLevel sample s
  | .bitxAcc => Sys2Proof.Machine.execBitxAcc s
  | .bitxZc => Sys2Proof.Machine.execBitxZc s
  | .bitxCorr => Sys2Proof.Machine.execBitxCorr s
  | .bitxDump => Sys2Proof.Machine.execBitxDump s
  | .syncSql signalPresent => Sys2Proof.Machine.execSyncSql signalPresent s
  | .syncBit bit => Sys2Proof.Machine.execSyncBit bit s
  | .frmParse spec => Sys2Proof.Machine.execFrmParse spec s
  | .frmCheck code => Sys2Proof.Machine.execFrmCheck code s
  | .frmCheckDoubled code => Sys2Proof.Machine.execFrmCheckDoubled code s
  | .frmExtract code => Sys2Proof.Machine.execFrmExtract code s
  | .decCheck code => Sys2Proof.Machine.execDecCheck code s
  | .decChar code => Sys2Proof.Machine.execDecChar code s
  | .decRst => Sys2Proof.Machine.execDecRst s
  | .fecCheck d => Sys2Proof.Machine.execFecCheck d s
  | .fecChar d => Sys2Proof.Machine.execFecChar d s
  | .fecRst => Sys2Proof.Machine.execFecRst s
  | .ita2Check d => Sys2Proof.Machine.execIta2Check d s
  | .ita2Char d => Sys2Proof.Machine.execIta2Char d s
  | .ita2Rst => Sys2Proof.Machine.execIta2Rst s
  | .ascCheck d => Sys2Proof.Machine.execAscCheck d s
  | .ascChar d => Sys2Proof.Machine.execAscChar d s
  | .ascRst => Sys2Proof.Machine.execAscRst s
  | .getNBits => Sys2Proof.Machine.execGetNBits s
  | .getMsb => Sys2Proof.Machine.execGetMsb s
  | .sampleStep sample => Sys2Proof.Machine.execSampleStep sample s

end Sys2Proof.Machine
end

