-- ==== Sys2Proof/Machine/Fetch.lean ====
section
/-! DEFINITION. How the next thing the host presents is taken from the inbox and read (log 1). `Step.lean` calls these. -/

namespace Sys2Proof.Machine

/-- Nothing is presented: nothing happens, and the events of the last step are gone (R274; log 14). -/
def idle (s : State) : State := s.setOut []

/-- The state in which the oldest entry of the inbox is executed: the entry is taken, and the events of the last step
are gone (R274). -/
def take (rest : List Input) (s : State) : State := (s.setInbox rest).setOut []

/-- The host drives the configuration ports (R49, R324). -/
def drivePorts (p : ConfigPorts) (s : State) : State := s.setPorts p

/-- One word: the decoded instruction runs; an illegal frame pattern is received all the same and traps nothing (R93);
a word wider than its port cannot be presented (log 16). -/
def runWord (sp : Space) (w : RawCode) (s : State) : Host.Outcome State Fault Refusal :=
  match decode sp w with
  | .ok i => exec i s
  | .error .wordTooWide => .refused .wordTooWide
  | .error .illegalFrame =>
    match sp with
    | .frame spec => .next (receiveIllegal spec w s)
    | _ => .next s

/-- One step: the oldest entry of the inbox. -/
def runInbox (s : State) : Host.Outcome State Fault Refusal :=
  match s.inbox with
  | [] => .next (idle s)
  | .drive p :: rest => .next (drivePorts p (take rest s))
  | .word sp w :: rest => runWord sp w (take rest s)

/-- The encoding that can work with a framing (R265). -/
def encodingFor : FramingSpec → Encoding
  | .fourOfSeven => .ccir476
  | .async .five _ _ => .ita2
  | .async _ _ _ => .ascii

/-- A block in which the decoder of this encoding is at work (R44, R304): running, and in SteadyState, the state in which
groups are decoded one by one (R170; log 1). -/
def readyToDecode (enc : Encoding) (s : State) : State :=
  if decoding enc s then s
  else
    let s := (s.setCfg { s.cfg with enc := enc }).setCtl { s.ctl with constructed := true, running := true }
    s.setSync { s.sync with state := .steadyState, resync := false }

/-- What it takes for a word of a space to be executed next: a frame is received only by a running decoder constructed
with its framing, a code word only by a decoder of its encoding that is at work; a command needs nothing (log 1). -/
def readyFor (sp : Space) (s : State) : State :=
  match sp with
  | .frame spec =>
    let d := descriptorOf spec
    if s.ctl.constructed && s.ctl.running && decide (s.cfg.desc = d) then s
    else
      let s := s.setCfg { s.cfg with desc := d, enc := encodingFor spec, T := d.totalBits, msb := (1 : RawCode) <<< (d.totalBits - 1) }
      s.setCtl { s.ctl with constructed := true, running := true }
  | .ita2 => readyToDecode .ita2 s
  | .ccir476 => readyToDecode .ccir476 s
  | .ascii7 | .ascii8 => readyToDecode .ascii s
  | .command => s

/-- A bare word of the opcode table as an entry of the inbox (log 6). -/
def tableInput (nbits w : Nat) : Input := .word (tableSpace nbits w) (BitVec.ofNat 32 w)

end Sys2Proof.Machine
end

