-- ==== Sys2Proof/Machine/Step.lean ====
section
/-! DEFINITION. One step of the machine: the next thing the host presents is taken and has its whole effect (R261). -/

namespace Sys2Proof.Machine

/-- One step. -/
def step (s : State) : Host.Outcome State Fault Refusal := runInbox s

/-- The state in which a bare word of the opcode table is presented next (log 1, log 6). -/
def State.withFetchWord (s : State) (nbits w : Nat) : State :=
  (readyFor (tableSpace nbits w) s).setInbox (tableInput nbits w :: s.inbox)

end Sys2Proof.Machine
end

