-- ==== Sys2Proof/Safety.lean ====
section
/-! DEFINITION. What counts as a sound state of the block: the ranges the state file gives its elements (R25 to R48),
as an invariant of every step; and the checks of CONSTRUCT written out in the spec's own terms (R264, R265, R266). -/

namespace Sys2Proof.Machine

/-- What CONSTRUCT can have latched (R262 to R266). -/
def ConfigWf (P : Params) (c : Latched) : Prop :=
  ∃ (p : ConfigPorts) (spec : FramingSpec) (enc : Encoding),
    c = latch P p (descriptorOf spec) enc ∧ comboOk enc (descriptorOf spec) = true ∧ configOk P c = true

/-! ## The checks of CONSTRUCT in the spec's own terms -/

/-- The exact spelling that selects an encoding (R264). -/
def encodingName : Encoding → List Char
  | .ccir476 => ['C', 'C', 'I', 'R', '4', '7', '6']
  | .ita2 => ['I', 'T', 'A', '2']
  | .ascii => ['A', 'S', 'C', 'I', 'I']

/-- The text of port 6 is the name of this encoding, nothing else before the 0x00 padding (R49, R264). -/
def NamesEncoding (t : PortText) (enc : Encoding) : Prop := portString t = asciiBytes (encodingName enc)

/-- The pairs of encoding and framing that can work together (R265). -/
def PairLegal : Encoding → Descriptor → Prop
  | .ccir476, d => d = ⟨0, 7, .none, 7, false, false⟩
  | .ita2, d => d.startBits = 1 ∧ d.dataBits = 5
  | .ascii, d => d.startBits = 1 ∧ (d.dataBits = 7 ∨ d.dataBits = 8)

/-- Every numeric condition of R266, on the port values and the parameters, with the derived constants of R11 written
out. -/
def ConfigLegal (P : Params) (p : ConfigPorts) (d : Descriptor) : Prop :=
  let sampleRate : Rat := p.sampleRate.toNat
  let mark := p.centerFreq + P.toneBump.at p.centerFreq + p.shift / 2
  let space := p.centerFreq + P.toneBump.at p.centerFreq - p.shift / 2
  let k : Rat := if d.doubled then 2 else 1
  1000 ≤ sampleRate ∧ 0 < p.centerFreq ∧ 0 < min mark space ∧ max mark space < sampleRate / 2
    ∧ 0 < P.lpFreq ∧ P.lpFreq < sampleRate / 2 ∧ 0 < P.toneQ.at p.centerFreq
    ∧ 2 ≤ (sampleRate / (max p.baud 10 * k) + 1 / 2).floor

/-! ## The invariant -/

/-- The parameters with which the rules make sense (the model's reading of R10, log 9): the three divisors and the cycle are
positive, and a confirmation takes at least the frame of Hunting and one more. -/
structure ParamsLegal (P : Params) : Prop where
  zcDiv_pos : 0 < P.zcDiv
  zcCycle_pos : 0 < P.zcCycle
  loopDiv_pos : 0 < P.loopDiv
  confirmN_ge : 2 ≤ P.confirmN

/-- The number is a value of the format `NUM` (R15). -/
abbrev IsDatum (P : Params) (a : Number) : Prop := P.num.datum a = a

/-- The coefficients and the history of a section are values of `NUM` (R22, R23). -/
structure SectionWf (P : Params) (x : Section) : Prop where
  coef : IsDatum P x.coef.b0 ∧ IsDatum P x.coef.b1 ∧ IsDatum P x.coef.b2 ∧ IsDatum P x.coef.a1 ∧ IsDatum P x.coef.a2
  history : IsDatum P x.x1 ∧ IsDatum P x.x2 ∧ IsDatum P x.y1 ∧ IsDatum P x.y2

/-- Every number the block holds is a value of `NUM` (R15, R22, R23, R25). -/
structure NumbersWf (s : State) : Prop where
  sections : ∀ f, SectionWf s.params (s.filt.get f)
  avg : IsDatum s.params s.bx.avg

/-- The ranges of the timing loop between two sample steps (R27 to R32, R46, R145). A window has at most
`N + ceil(N / (2 * LOOP_DIV))` samples, and each of them moves `bx.acc` by one. A sample counts at most one transition, so the
histogram holds at most one entry for each sample since it was last cleared; that number follows from the ticks counted
and the samples since the last tick (`hist_elapsed`), and R31's bound with it (`hist_sum_le`). -/
structure TimingWf (s : State) : Prop where
  run_le : s.bx.run ≤ s.cfg.N
  until_nonneg : 0 ≤ s.bx.untilEvent
  acc_until : (s.bx.acc.natAbs : Int) + s.bx.untilEvent < s.cfg.N + ceilDiv s.cfg.N (2 * s.params.loopDiv)
  phase_lt : s.bx.phase < s.cfg.N
  zcCount_lt : s.bx.zcCount < s.params.zcCycle
  hist_length : s.bx.hist.length = s.cfg.nbins
  hist_elapsed : s.bx.hist.sum ≤ s.bx.zcCount * s.cfg.N + (s.bx.phase + s.cfg.N - 1) % s.cfg.N
  hist_sum_le : s.bx.hist.sum ≤ s.params.zcCycle * s.cfg.N
  corr_range : s.bx.corrPending.natAbs ≤ ceilDiv s.cfg.N (2 * s.params.loopDiv)
  timingError_range : -(s.cfg.N : Int) ≤ s.diag.timingError ∧ s.diag.timingError < s.cfg.N

/-- The ranges of the synchronizer (R34 to R39) and what its states imply. -/
structure SyncWf (s : State) : Prop where
  code_fits : s.sync.code.toNat < 2 ^ s.cfg.T
  bitCount_lt : s.sync.bitCount < s.cfg.T
  fill_le : s.sync.fill ≤ s.cfg.T
  recd_length : s.sync.recd.length = s.params.confirmN
  recd_fits : ∀ c ∈ s.sync.recd, c.toNat < 2 ^ s.cfg.T
  valid_lt : s.sync.validCount < s.params.confirmN
  valid_pos : s.sync.state = .confirming → 0 < s.sync.validCount
  err_le : s.sync.errCount ≤ s.params.errLimit + 1
  err_armed : s.sync.resync = false → s.sync.errCount ≤ s.params.errLimit
  resync_state : s.sync.resync = true → s.sync.state = .noSignal ∨ s.sync.state = .hunting
  noSignal_resync : s.sync.state = .noSignal → s.sync.resync = true
  noSignal_cleared : s.sync.state = .noSignal → s.sync.code = 0 ∧ s.sync.bitCount = 0 ∧ s.sync.fill = 0
    ∧ s.sync.validCount = 0 ∧ s.sync.errCount = 0 ∧ s.sync.waitSpace = false

/-- The state of a decoder that is not selected is never touched (R44): it stays as CONSTRUCT left it (log 21). In a
squelched block the decoders are idle and their state is cleared (R51, R304). -/
structure DecodersWf (s : State) : Prop where
  ita2_unselected : s.cfg.enc ≠ .ita2 → s.ita2 = State.reset.ita2
  fec_unselected : s.cfg.enc ≠ .ccir476 → s.fec = State.reset.fec
  noSignal_cleared : s.sync.state = .noSignal → s.ita2 = State.reset.ita2 ∧ s.fec = State.reset.fec

/-- A sound state. Before the first CONSTRUCT the components are as at power-on and nothing runs (R51, R321). -/
structure Sound (s : State) : Prop where
  params_legal : ParamsLegal s.params
  numbers : NumbersWf s
  running_constructed : s.ctl.running = true → s.ctl.constructed = true
  tallies : s.diag.succTally < 2 ^ s.params.tallyW ∧ s.diag.failTally < 2 ^ s.params.tallyW
  constructed : s.ctl.constructed = true → ConfigWf s.params s.cfg ∧ TimingWf s ∧ SyncWf s ∧ DecodersWf s
  unconstructed : s.ctl.constructed = false →
    let p := State.powerOn s.params
    s.cfg = p.cfg ∧ s.filt = p.filt ∧ s.bx = p.bx ∧ s.sync = p.sync ∧ s.ita2 = p.ita2 ∧ s.fec = p.fec

/-- An input a real host can present: port values and command words. Frames and code words reach the block only
inside samples (R62); as inputs of their own they are a bench convention (log 2, log 3). -/
def hostInput : Input → Bool
  | .drive _ => true
  | .word .command _ => true
  | .word _ _ => false

end Sys2Proof.Machine
end

