-- ==== Sys2Proof/Certificates/Slice0/Obligations.lean ====
section
/-! DEFINITION. The statements for the provers. Where an operation returns a value, the statement reads it in `ret`
(the model's field, log 4). A statement about a state holds for whatever parameters (R10) the block of that state has; the
defaults are in `ResetIsSound` and `GlyphTablesCorrespond`. -/

open Sys2Proof Sys2Proof.Machine

/-! ## Encoding -/

/-- Every instruction that has an encoding decodes from its own word, every operand at every value. -/
def Obligations.DecodeInvertsEncode : Prop :=
  ∀ (i : Instr) (sp : Space) (w : RawCode), i.wellFormed = true → encode i = some (sp, w) → decode sp w = .ok i

/-- A word has at most one meaning in its space, and it is the word the encoder writes. -/
def Obligations.EncodeInvertsDecode : Prop :=
  ∀ (sp : Space) (w : RawCode) (i : Instr), decode sp w = .ok i → encode i = some (sp, w) ∧ i.wellFormed = true

/-- Words written out from R82, R89, R90, R91 and R92. -/
def Obligations.SpecWordsDecode : Prop :=
  decode .command 0x00000 = .ok (.nop 0) ∧ decode .command 0x10000 = .ok (.construct 0)
    ∧ decode .command 0x5FFFF = .ok (.sample 0xFFFF) ∧ decode .command 0xF1234 = .ok (.reservedOpF 0x1234)
    ∧ decode (.frame (.async .five .one false)) 0b1010100 = .ok (.frame5N1 0b01010)
    ∧ decode (.frame (.async .five .two true)) 0b11010100 = .ok (.frame5N2Efr 0b01010)
    ∧ decode (.frame (.async .five .oneAndHalf false)) 0b111001100110000 = .ok (.frame5N15 0b01010)
    ∧ decode (.frame (.async .seven .oneAndHalf false)) 0x7C00C = .ok (.frame7N15 0x41)
    ∧ decode (.frame (.async .eight .one false)) 0x282 = .ok (.frame8N1 0x41)
    ∧ decode (.frame .fourOfSeven) 0x66 = .ok (.frame4of7 0x66)
    ∧ decode .ita2 0b11011 = .ok .ita2Code1B ∧ decode .ccir476 0b1100110 = .ok .fecCode66
    ∧ decode .ascii7 0x41 = .ok (.asciiCode7 0x41) ∧ decode .ascii8 0xC1 = .ok (.asciiCode8 0xC1)

/-- The frame decoder accepts exactly the `T`-bit words that the framing validator accepts (R93 to R195). -/
def Obligations.FrameDecoderAgreesWithValidator : Prop :=
  ∀ (d : DataBits) (st : StopBits) (efr : Bool) (w : RawCode),
    w.toNat < 2 ^ (FramingSpec.async d st efr).totalBits →
    ((∃ i, decode (.frame (.async d st efr)) w = .ok i) ↔ frmCheck (descriptorOf (.async d st efr)) w = true)

/-! ## The step -/

/-- A presented word that decodes runs as the decoded instruction; the entry is taken from the inbox and the events of
the last step are gone (the inbox is the model's: log 1, log 13). -/
def Obligations.StepRunsDecodedInstruction : Prop :=
  ∀ (s : State) (sp : Space) (w : RawCode) (rest : List Input) (i : Instr),
    s.inbox = .word sp w :: rest → decode sp w = .ok i → step s = exec i { s with inbox := rest, out := [] }

/-- No word that a port can carry stops the machine: every such input leads to a next state. -/
def Obligations.NoInputStopsTheMachine : Prop :=
  ∀ (s : State), (∀ sp w rest, s.inbox = .word sp w :: rest → w.toNat < 2 ^ sp.width) → ∃ t, step s = .next t

/-! ## Host commands -/

/-- NOP, the words with `op = 0`, writes `STATUS.err` and nothing else (R260). -/
def Obligations.NopChangesOnlyErr : Prop :=
  ∀ (imm : Sample) (s : State),
    decode .command (imm.zeroExtend 32) = .ok (.nop imm)
    ∧ exec (.nop imm) s = .next { s with ctl := { s.ctl with err := .ok } }

/-- The ten reserved opcodes complete with BAD_COMMAND and change nothing else, as instructions and as command words
with `op` in 0x6 to 0xF; `imm16` is ignored by every command but SAMPLE (R83). -/
def Obligations.ReservedOpcodesBadCommand : Prop :=
  ∀ (imm : Sample) (s : State),
    (∀ i ∈ [Instr.reservedOp6 imm, .reservedOp7 imm, .reservedOp8 imm, .reservedOp9 imm, .reservedOpA imm,
        .reservedOpB imm, .reservedOpC imm, .reservedOpD imm, .reservedOpE imm, .reservedOpF imm],
      exec i s = .next { s with ctl := { s.ctl with err := .badCommand } })
    ∧ (∀ op : Nat, 6 ≤ op → op < 16 → ∃ i, decode .command (BitVec.ofNat 32 (op * 2 ^ 16 + imm.toNat)) = .ok i
        ∧ exec i s = .next { s with ctl := { s.ctl with err := .badCommand } })
    ∧ exec (.nop imm) s = exec (.nop 0) s ∧ exec (.construct imm) s = exec (.construct 0) s
    ∧ exec (.start imm) s = exec (.start 0) s ∧ exec (.stop imm) s = exec (.stop 0) s
    ∧ exec (.reset imm) s = exec (.reset 0) s

/-- START, `op = 2`: refused before CONSTRUCT and while running, else `ctl.running <- 1` (R267). -/
def Obligations.StartEffect : Prop :=
  ∀ (imm : Sample) (s : State),
    decode .command (0x20000 + imm.zeroExtend 32) = .ok (.start imm)
    ∧ exec (.start imm) s =
      if s.ctl.constructed = false then .next { s with ctl := { s.ctl with err := .notConstructed } }
      else if s.ctl.running = true then .next { s with ctl := { s.ctl with err := .alreadyRunning } }
      else .next { s with ctl := { s.ctl with running := true, err := .ok } }

/-- STOP, `op = 3`, never fails and keeps all other state (R271). -/
def Obligations.StopEffect : Prop :=
  ∀ (imm : Sample) (s : State),
    decode .command (0x30000 + imm.zeroExtend 32) = .ok (.stop imm)
    ∧ exec (.stop imm) s = .next { s with ctl := { s.ctl with running := false, err := .ok } }

/-- RESET, `op = 4`, on a constructed block: every element of R51 at its reset value, the content of `sync.rec` free, and
nothing else changed; before CONSTRUCT it is refused (R268). The model's choices in it: the unselected decoder is reset
with the selected one (log 21, deduced from R51), the per-step Booleans are kept (log 10), and the content of `sync.rec`
is drawn anew (log 11). -/
def Obligations.ResetEffect : Prop :=
  ∀ (imm : Sample) (s : State),
    let zero := s.params.num.ops.const 0
    decode .command (0x40000 + imm.zeroExtend 32) = .ok (.reset imm)
    ∧ (s.ctl.constructed = false →
      exec (.reset imm) s = .next { s with ctl := { s.ctl with err := .notConstructed } })
    ∧ (s.ctl.constructed = true → ∃ (free : List RawCode) (n : Nat),
      free.length = s.params.confirmN ∧ (∀ c ∈ free, c.toNat < 2 ^ s.cfg.T)
      ∧ exec (.reset imm) s = .next { s with
        filt := ⟨⟨s.filt.mark.coef, zero, zero, zero, zero⟩, ⟨s.filt.space.coef, zero, zero, zero, zero⟩,
          ⟨s.filt.lp.coef, zero, zero, zero, zero⟩⟩
        bx := ⟨zero, false, 0, 0, (s.cfg.N : Int) - 1, 0, 0, List.replicate s.cfg.nbins 0, 0, false,
          s.bx.rawMark, s.bx.signalPresent, s.bx.pulseEdge⟩
        sync := ⟨.noSignal, true, 0, 0, 0, 0, free, 0, false⟩
        ita2 := ⟨false, false, 0⟩
        fec := ⟨false, 0, 0, 0, false⟩
        diag := ⟨0, 0, 0⟩
        ctl := { s.ctl with err := .ok }
        freeCount := n })

/-- A failing CONSTRUCT: the first failing check, in the written order, gives the code, and nothing else changes
(R262, R290, R293). A name is none of the three of R264, exactly spelt; a pair is none of R265's; a value fails one of
R266's conditions. -/
def Obligations.ConstructFirstFailureWins : Prop :=
  ∀ (imm : Sample) (s : State),
    let failsWith (e : ErrCode) : Prop :=
      exec (.construct imm) s = .next { s with ctl := { s.ctl with err := e } }
    (s.ctl.running = true → failsWith .alreadyRunning)
    ∧ (s.ctl.running = false → frmParse s.ports.framing = none → failsWith .badFraming)
    ∧ (∀ d, s.ctl.running = false → frmParse s.ports.framing = some d →
        (∀ enc, ¬NamesEncoding s.ports.encoding enc) → failsWith .badEncoding)
    ∧ (∀ d enc, s.ctl.running = false → frmParse s.ports.framing = some d → NamesEncoding s.ports.encoding enc →
        ¬PairLegal enc d → failsWith .badCombination)
    ∧ (∀ d enc, s.ctl.running = false → frmParse s.ports.framing = some d → NamesEncoding s.ports.encoding enc →
        PairLegal enc d → ¬ConfigLegal s.params s.ports d → failsWith .badConfig)

/-- A successful CONSTRUCT: every check of R264, R265 and R266 holds; what is latched, the derived constants of R11 (`N`
an exact rational computation), the coefficients of R111, and the reset values of R51; the ports, the inbox and the
output list are not changed. The model's choices in it: the unselected decoder is reset with the selected one (log 21,
deduced from R51), `bx.rawMark`, `bx.signalPresent` and `bx.pulseEdge` stay as they were (log 10), and the content of
`sync.rec` is drawn anew (log 11). -/
def Obligations.ConstructBuildsDecoder : Prop :=
  ∀ (imm : Sample) (s : State) (d : Descriptor) (enc : Encoding),
    s.ctl.running = false → frmParse s.ports.framing = some d → NamesEncoding s.ports.encoding enc →
    PairLegal enc d → ConfigLegal s.params s.ports d →
    let zero := s.params.num.ops.const 0
    ∃ (t : State) (free : List RawCode) (n : Nat), exec (.construct imm) s = .next t
      ∧ t.ctl = ⟨true, false, .ok⟩
      ∧ t.cfg.sampleRate = s.ports.sampleRate.toNat ∧ t.cfg.centerFreq = s.ports.centerFreq
      ∧ t.cfg.shift = s.ports.shift ∧ t.cfg.baud = s.ports.baud ∧ t.cfg.inverted = s.ports.inverted
      ∧ t.cfg.baudC = max s.ports.baud 10 ∧ t.cfg.desc = d ∧ t.cfg.enc = enc
      ∧ t.cfg.k = (if d.doubled then 2 else 1)
      ∧ (t.cfg.N : Int) = ((s.ports.sampleRate.toNat : Rat) / (t.cfg.baudC * t.cfg.k) + 1 / 2).floor
      ∧ t.cfg.nbins = (t.cfg.N + s.params.zcDiv - 1) / s.params.zcDiv
      ∧ t.cfg.T = d.totalBits ∧ t.cfg.msb = (1 : RawCode) <<< (d.totalBits - 1)
      ∧ t.cfg.markFreq = s.ports.centerFreq + s.params.toneBump.at s.ports.centerFreq + s.ports.shift / 2
      ∧ t.cfg.spaceFreq = s.ports.centerFreq + s.params.toneBump.at s.ports.centerFreq - s.ports.shift / 2
      ∧ (let toneQ := Resonance.rational (s.params.toneQ.at s.ports.centerFreq)
         t.filt.mark = ⟨s.params.coefficients .bandpass t.cfg.markFreq t.cfg.sampleRate toneQ, zero, zero, zero, zero⟩
         ∧ t.filt.space = ⟨s.params.coefficients .bandpass t.cfg.spaceFreq t.cfg.sampleRate toneQ, zero, zero, zero, zero⟩
         ∧ t.filt.lp = ⟨s.params.coefficients .lowpass s.params.lpFreq t.cfg.sampleRate s.params.lpQ,
            zero, zero, zero, zero⟩)
      ∧ t.bx = ⟨zero, false, 0, 0, (t.cfg.N : Int) - 1, 0, 0, List.replicate t.cfg.nbins 0, 0, false,
          s.bx.rawMark, s.bx.signalPresent, s.bx.pulseEdge⟩
      ∧ free.length = s.params.confirmN ∧ (∀ c ∈ free, c.toNat < 2 ^ d.totalBits)
      ∧ t.sync = ⟨.noSignal, true, 0, 0, 0, 0, free, 0, false⟩
      ∧ t.ita2 = ⟨false, false, 0⟩ ∧ t.fec = ⟨false, 0, 0, 0, false⟩ ∧ t.diag = ⟨0, 0, 0⟩
      ∧ t.params = s.params ∧ t.ports = s.ports ∧ t.out = s.out ∧ t.inbox = s.inbox ∧ t.ret = s.ret ∧ t.freeCount = n

/-- A SAMPLE that is not accepted has no effect but its result code (R269). -/
def Obligations.SampleRefusedLeavesState : Prop :=
  ∀ (x : Sample) (s : State),
    (s.ctl.constructed = false →
      exec (.sample x) s = .next { s with ctl := { s.ctl with err := .notConstructed } })
    ∧ (s.ctl.constructed = true → s.ctl.running = false →
      exec (.sample x) s = .next { s with ctl := { s.ctl with err := .notRunning } })

/-- An accepted SAMPLE runs the operations of R270 in that order and no other, on an empty output list; SAMPLE_STEP run
on its own does the same. -/
def Obligations.SampleRunsOperationsInOrder : Prop :=
  ∀ (x : Sample) (s : State), s.ctl.constructed = true → s.ctl.running = true →
    ∃ s1 s2 s3 s4 s5 s6 s7 : State,
      exec (.bitxLevel x) { s with out := [] } = .next s1 ∧ exec .bitxAcc s1 = .next s2 ∧ exec .bitxZc s2 = .next s3
      ∧ exec .bitxCorr s3 = .next s4 ∧ exec .bitxDump s4 = .next s5
      ∧ exec (.syncSql s5.bx.signalPresent) s5 = .next s6
      ∧ (if s5.bx.signalPresent && s5.bx.pulseEdge then exec (.syncBit s5.bx.symBit) s6 = .next s7 else s7 = s6)
      ∧ exec (.sampleStep x) s = .next { s7 with bx := { s7.bx with
          untilEvent := s7.bx.untilEvent - 1, phase := (s7.bx.phase + 1) % s7.cfg.N } }
      ∧ exec (.sample x) s = .next { s7 with
          bx := { s7.bx with untilEvent := s7.bx.untilEvent - 1, phase := (s7.bx.phase + 1) % s7.cfg.N }
          ctl := { s.ctl with err := .ok } }

/-- No command ends with a code that R292 does not list for it, a command that fails changes nothing but `STATUS.err`,
and no command but SAMPLE emits an event (R272, R290, R292). -/
def Obligations.CommandResultCodes : Prop :=
  ∀ (imm : Sample) (s t : State) (i : Instr) (codes : List ErrCode),
    (i, codes) ∈ [(Instr.nop imm, [ErrCode.ok]),
      (.construct imm, [.ok, .alreadyRunning, .badFraming, .badEncoding, .badCombination, .badConfig]),
      (.start imm, [.ok, .notConstructed, .alreadyRunning]), (.stop imm, [.ok]),
      (.reset imm, [.ok, .notConstructed]), (.sample imm, [.ok, .notConstructed, .notRunning]),
      (.reservedOp6 imm, [.badCommand]), (.reservedOp7 imm, [.badCommand]), (.reservedOp8 imm, [.badCommand]),
      (.reservedOp9 imm, [.badCommand]), (.reservedOpA imm, [.badCommand]), (.reservedOpB imm, [.badCommand]),
      (.reservedOpC imm, [.badCommand]), (.reservedOpD imm, [.badCommand]), (.reservedOpE imm, [.badCommand]),
      (.reservedOpF imm, [.badCommand])] →
    exec i s = .next t →
    t.ctl.err ∈ codes ∧ (t.ctl.err ≠ .ok → t = { s with ctl := { s.ctl with err := t.ctl.err } })
    ∧ (i ≠ .sample imm → t.out = s.out)

/-! ## Whole-machine rules -/

/-- The control flags move only as R299's table says, whatever instruction runs. -/
def Obligations.LifecycleTransitions : Prop :=
  ∀ (i : Instr) (s t : State), exec i s = .next t →
    (t.ctl.constructed = s.ctl.constructed ∧ t.ctl.running = s.ctl.running)
    ∨ (∃ imm, i = .construct imm ∧ s.ctl.running = false ∧ t.ctl.constructed = true ∧ t.ctl.running = false)
    ∨ (∃ imm, i = .start imm ∧ s.ctl.constructed = true ∧ s.ctl.running = false
        ∧ t.ctl.constructed = true ∧ t.ctl.running = true)
    ∨ (∃ imm, i = .stop imm ∧ t.ctl.constructed = s.ctl.constructed ∧ t.ctl.running = false)

/-- No instruction changes a parameter (R10) or a configuration port; only CONSTRUCT changes the latched configuration, and
only CONSTRUCT and FILT.CFG change a coefficient (R75, R112, R323). -/
def Obligations.ConfigurationImmutable : Prop :=
  ∀ (i : Instr) (s t : State), exec i s = .next t →
    t.params = s.params ∧ t.ports = s.ports
    ∧ ((∀ imm, i ≠ .construct imm) → t.cfg = s.cfg
      ∧ ((∀ f kind fr sr q, i ≠ .filtCfg f kind fr sr q) → ∀ f, (t.filt.get f).coef = (s.filt.get f).coef))

/-- No rule reads the tallies to decide anything: two states that differ only in the tallies still differ only in the
tallies after the same instruction (R45, R303). -/
def Obligations.TalliesDecideNothing : Prop :=
  ∀ (i : Instr) (s t : State) (succ fail : Nat), exec i s = .next t →
    ∃ succ' fail', exec i { s with diag := { s.diag with succTally := succ, failTally := fail } }
      = .next { t with diag := { t.diag with succTally := succ', failTally := fail' } }

/-- A block as at power-on, whatever its parameters, accepts only NOP, STOP and CONSTRUCT with success (R321). -/
def Obligations.PowerOnAccepts : Prop :=
  ∀ (imm : Sample) (P : Params) (p : ConfigPorts),
    let s := { State.powerOn P with ports := p }
    (∃ t, exec (.nop imm) s = .next t ∧ t.ctl.err = .ok) ∧ (∃ t, exec (.stop imm) s = .next t ∧ t.ctl.err = .ok)
    ∧ (∃ t, exec (.start imm) s = .next t ∧ t.ctl.err = .notConstructed)
    ∧ (∃ t, exec (.reset imm) s = .next t ∧ t.ctl.err = .notConstructed)
    ∧ (∃ t, exec (.sample imm) s = .next t ∧ t.ctl.err = .notConstructed)
    ∧ (∀ d enc, frmParse p.framing = some d → NamesEncoding p.encoding enc → PairLegal enc d → ConfigLegal P p d →
        ∃ t, exec (.construct imm) s = .next t ∧ t.ctl.err = .ok)

/-- Power-on meets the invariant, with the default parameters (the values of R10; the glyph tables are in
`GlyphTablesCorrespond`) as with any legal ones. -/
def Obligations.ResetIsSound : Prop :=
  (∀ P, ParamsLegal P → Sound (State.powerOn P)) ∧ Sound State.reset
  ∧ (let P := State.reset.params
     P.num = .ieee ⟨11, 52⟩ ∧ (∀ fc, P.toneBump.at fc = 4000 / fc) ∧ (∀ fc, P.toneQ.at fc = 6 * fc / 1000)
     ∧ P.lpFreq = 140 ∧ P.lpQ = .sqrtOf (1 / 2) ∧ (∀ sampleRate, P.avgTc.at sampleRate = 1000 / sampleRate)
     ∧ P.avgFloor = 1 / 10 ∧ P.signalFloor = 256 ∧ P.zcDiv = 4 ∧ P.zcCycle = 16 ∧ P.loopDiv = 8 ∧ P.confirmN = 4
     ∧ P.errLimit = 2 ∧ P.usos = false ∧ P.tallyW = 32)

/-- Every step keeps the invariant: the ranges of R27 to R48 hold in every reachable state (the histogram's sum of R31
among them), every number is a value of `NUM`, the state of an unselected decoder is never touched (R44; it stays as
log 21 leaves it), and a squelched block has its synchronizer and decoders cleared (R304); and no step changes the parameters (R10). -/
def Obligations.StepKeepsSound : Prop :=
  ∀ (s t : State), Sound s → step s = .next t → Sound t ∧ t.params = s.params

/-! ## Status registers -/

/-- `STATUS`: bit 0 `constructed`, bit 1 `running`, bits 5:2 the code of R291; `SYNC_STATE` in the numbering of R33. In a
sound state ports 10 and 11 read the tallies, and in a constructed one port 9, of `ceil(log2(N)) + 2` bits in two's
complement, is the timing error and ports 12 and 13 give the frame length; a host read answers these ports and no other
(R49, R275). -/
def Obligations.StatusRegisterLayout : Prop :=
  ∀ (s : State),
    let errCode : Nat := match s.ctl.err with
      | .ok => 0 | .badCommand => 1 | .badFraming => 2 | .badEncoding => 3 | .badCombination => 4 | .badConfig => 5
      | .alreadyRunning => 6 | .notConstructed => 7 | .notRunning => 8
    let syncCode : Nat := match s.sync.state with
      | .noSignal => 0 | .hunting => 1 | .confirming => 2 | .steadyState => 3
    ((statusPort s).getLsbD 0 = s.ctl.constructed ∧ (statusPort s).getLsbD 1 = s.ctl.running
      ∧ ((statusPort s).extractLsb' 2 4).toNat = errCode ∧ (syncStatePort s).toNat = syncCode)
    ∧ readPort s.params s 7 = some (6, 4 * errCode + 2 * s.ctl.running.toNat + s.ctl.constructed.toNat)
    ∧ readPort s.params s 8 = some (2, syncCode)
    ∧ (∀ k, k < 7 ∨ 13 < k → readPort s.params s k = none)
    ∧ (Sound s → (succTallyPort s.params s).toNat = s.diag.succTally ∧ (failTallyPort s.params s).toNat = s.diag.failTally
      ∧ readPort s.params s 10 = some (s.params.tallyW, s.diag.succTally)
      ∧ readPort s.params s 11 = some (s.params.tallyW, s.diag.failTally))
    ∧ (Sound s → s.ctl.constructed = true →
      let width := Nat.clog 2 s.cfg.N + 2
      (timingErrorPort s).toInt = s.diag.timingError
      ∧ readPort s.params s 9 = some (width, (s.diag.timingError % (2 ^ width : Nat)).toNat)
      ∧ readPort s.params s 12 = some (6, s.cfg.desc.totalBits)
      ∧ readPort s.params s 13 = some (32, 2 ^ (s.cfg.desc.totalBits - 1)))

/-- GETNBITS and GETMSB answer `T` and `1 << (T - 1)` of the constructed framing and change nothing; ports 12 and 13 read
the same (R193). -/
def Obligations.FrameLengthQueries : Prop :=
  ∀ (s : State), ConfigWf s.params s.cfg →
    exec .getNBits s = .next { s with ret := .count s.cfg.desc.totalBits }
    ∧ exec .getMsb s = .next { s with ret := .mask ((1 : RawCode) <<< (s.cfg.desc.totalBits - 1)) }
    ∧ (nbitsPort s).toNat = s.cfg.desc.totalBits ∧ msbMaskPort s = (1 : RawCode) <<< (s.cfg.desc.totalBits - 1)

/-! ## Filter bank -/

/-- FILT.CFG recomputes the coefficients of its section and touches nothing else (R112). -/
def Obligations.FiltCfgEffect : Prop :=
  ∀ (f : SectionName) (kind : SectionKind) (fr : Rat) (sr : Nat) (q : Resonance) (s : State), ∃ t,
    exec (.filtCfg f kind fr sr q) s = .next t
    ∧ t.filt.get f = { s.filt.get f with coef := s.params.coefficients kind fr sr q }
    ∧ (∀ g, g ≠ f → t.filt.get g = s.filt.get g) ∧ t = { s with filt := t.filt }

/-- FILT.RST zeroes the history of its section; the coefficients are unchanged (R115). -/
def Obligations.FiltRstEffect : Prop :=
  ∀ (f : SectionName) (s : State), ∃ t,
    let zero := s.params.num.ops.const 0
    exec (.filtRst f) s = .next t ∧ t.filt.get f = ⟨(s.filt.get f).coef, zero, zero, zero, zero⟩
    ∧ (∀ g, g ≠ f → t.filt.get g = s.filt.get g) ∧ t = { s with filt := t.filt }

/-- FILT.RUN in `NUM`: five products and four sums, left to right, one operation each, and the shift of the
history (R116). -/
def Obligations.FiltRunEffect : Prop :=
  ∀ (f : SectionName) (x : Number) (s : State),
    let c := (s.filt.get f).coef
    let h := s.filt.get f
    let num := s.params.num.ops
    let y := num.sub (num.sub (num.add (num.add (num.mul c.b0 x) (num.mul c.b1 h.x1)) (num.mul c.b2 h.x2))
      (num.mul c.a1 h.y1)) (num.mul c.a2 h.y2)
    ∃ t, exec (.filtRun f x) s = .next t ∧ t.filt.get f = ⟨c, x, h.x1, y, h.y1⟩ ∧ t.ret = .number y
      ∧ (∀ g, g ≠ f → t.filt.get g = s.filt.get g) ∧ t = { s with filt := t.filt, ret := t.ret }

/-! ## Bit extractor -/

/-- BITX.LEVEL: both band-pass sections, the running average and its floor, the signal-present flag, the normalised
difference through the low-pass section, and the raw bit (R130 to R134). -/
def Obligations.BitxLevelEffect : Prop :=
  ∀ (x : Sample) (s : State), ∃ s1 s2 s3 t m sp logic,
    let num := s.params.num.ops
    exec (.filtRun .mark (num.ofInt16 x)) s = .next s1 ∧ s1.ret = .number m
    ∧ exec (.filtRun .space (num.ofInt16 x)) s1 = .next s2 ∧ s2.ret = .number sp
    ∧ (let avg := num.max (num.const s.params.avgFloor) (num.add s.bx.avg (num.mul
         (num.sub (num.max (num.abs m) (num.abs sp)) s.bx.avg) (num.const (s.params.avgTc.at s.cfg.sampleRate))))
       exec (.filtRun .lp (num.div (num.sub (num.abs m) (num.abs sp)) avg)) s2 = .next s3 ∧ s3.ret = .number logic
       ∧ exec (.bitxLevel x) s = .next t
       ∧ t = { s with filt := s3.filt, bx := { s.bx with
           avg := avg, signalPresent := !num.lt avg (num.const s.params.signalFloor)
           rawMark := (num.gtZero logic ^^ s.cfg.inverted) } })

/-- BITX.ACC: the accumulator moves by one (R135). -/
def Obligations.BitxAccEffect : Prop :=
  ∀ (s : State), exec .bitxAcc s =
    .next { s with bx := { s.bx with acc := if s.bx.rawMark then s.bx.acc + 1 else s.bx.acc - 1 } }

/-- BITX.ZC: the run length saturating at `N`, the legitimacy filter, and the bucket of a counted transition (R137,
R138). -/
def Obligations.BitxZcEffect : Prop :=
  ∀ (s : State),
    let r := min s.cfg.N (s.bx.run + 1)
    let j := ((-s.bx.untilEvent) % (s.cfg.N : Int)).toNat / s.params.zcDiv
    exec .bitxZc s = .next { s with bx := { s.bx with
      hist := if s.bx.rawMark ≠ s.bx.oldRaw ∧ 2 * r > s.cfg.N then s.bx.hist.set j (s.bx.hist.getD j 0 + 1)
        else s.bx.hist
      run := if s.bx.rawMark ≠ s.bx.oldRaw then 0 else r
      oldRaw := s.bx.rawMark } }

/-- BITX.CORR between ticks and at a tick that does not end the cycle (R139). -/
def Obligations.BitxCorrCountsTicks : Prop :=
  ∀ (s : State),
    (s.bx.phase ≠ 0 → exec .bitxCorr s = .next s)
    ∧ (s.bx.phase = 0 → s.bx.zcCount + 1 < s.params.zcCycle →
      exec .bitxCorr s = .next { s with bx := { s.bx with zcCount := s.bx.zcCount + 1 } })

/-- The tick that ends a cycle: the histogram is cleared; if its peak `best`, in the lowest bin `idx` that has it, is
positive, the raw offset of that bin is reported and its `LOOP_DIV`-th part, rounded to nearest, is pending; if every bin is
empty, neither changes (R139 to R141). -/
def Obligations.BitxCorrEvaluates : Prop :=
  ∀ (s : State), s.bx.phase = 0 → s.params.zcCycle ≤ s.bx.zcCount + 1 →
    ((∀ q ∈ s.bx.hist, q = 0) → exec .bitxCorr s = .next { s with bx := { s.bx with
        hist := List.replicate s.bx.hist.length 0, zcCount := 0 } })
    ∧ (∀ best idx : Nat, 0 < best → s.bx.hist[idx]? = some best → (∀ q ∈ s.bx.hist, q ≤ best) →
        (∀ j q, j < idx → s.bx.hist[j]? = some q → q < best) →
        let off2 : Int := (2 * (s.params.zcDiv * idx) + s.cfg.N) % (2 * s.cfg.N) - s.cfg.N
        exec .bitxCorr s = .next { s with
          bx := { s.bx with
            hist := List.replicate s.bx.hist.length 0, zcCount := 0
            corrPending := (off2 + s.params.loopDiv) / (2 * s.params.loopDiv) }
          diag := { s.diag with timingError := off2 }
          out := s.out ++ [.timingError off2] })

/-- BITX.DUMP: the pulse edge, the sign of the accumulator, and the next edge one period ahead plus the pending
correction, used once (R142 to R144). That BITX.DUMP on its own ends there, and leaves the decrement of R146 to the end of
the sample step (R270), is deduced: R100 lists it with R142 to R146 (log 22). -/
def Obligations.BitxDumpEffect : Prop :=
  ∀ (s : State), exec .bitxDump s = .next { s with bx :=
    if s.bx.untilEvent = 0 then { s.bx with
      pulseEdge := true, symBit := decide (0 < s.bx.acc), acc := 0
      untilEvent := s.cfg.N + s.bx.corrPending, corrPending := 0 }
    else { s.bx with pulseEdge := false } }

/-- The correction of any bin of the histogram lies within `ceil(N / (2 * LOOP_DIV))`, which is `ceil(N/16)` by default, so
two pulse edges are at least one and at most `N` plus that many sample steps apart (R145). -/
def Obligations.ScheduleStaysBounded : Prop :=
  ∀ (P : Params) (N idx : Nat), ParamsLegal P → 2 ≤ N → idx < ceilDiv N P.zcDiv →
    let c := correction P (rawOffset2 P N idx)
    let bound := ceilDiv N (2 * P.loopDiv)
    rawOffset2 P N idx ≤ N - 1 ∧ -(N : Int) ≤ rawOffset2 P N idx
    ∧ c ≤ bound ∧ -(bound : Int) ≤ c ∧ 1 ≤ (N : Int) + c

/-- A raw offset of `[-LOOP_DIV, LOOP_DIV)` half-samples gives no correction, and no other does: the dead zone of R149,
`[-4, 4)` samples by default. -/
def Obligations.CorrectionDeadZone : Prop :=
  ∀ (P : Params) (off2 : Int), 0 < P.loopDiv →
    (correction P off2 = 0 ↔ -(P.loopDiv : Int) ≤ off2 ∧ off2 < P.loopDiv)

/-- The down-counters are the machine with absolute counters: from a state that `(sampleCount, nextEvent)` describes, a
sample step leads to a state that the advanced pair describes, with the same pulse edge and the same tick (R147). -/
def Obligations.AbsoluteCountersSimulate : Prop :=
  ∀ (x : Sample) (s t : State) (sampleCount nextEvent : Int),
    s.ctl.constructed = true → s.ctl.running = true → 0 < s.cfg.N → sampleCount ≤ nextEvent →
    s.bx.untilEvent = nextEvent - sampleCount → (s.bx.phase : Int) = sampleCount % s.cfg.N →
    exec (.sample x) s = .next t →
    let s4 := bitxCorr s.params (bitxZc s.params (bitxAcc (bitxLevel s.params x { s with out := [] })))
    let next' := if sampleCount ≥ nextEvent then nextEvent + s.cfg.N + s4.bx.corrPending else nextEvent
    t.bx.pulseEdge = decide (sampleCount ≥ nextEvent)
    ∧ (s.bx.phase = 0 ↔ sampleCount % s.cfg.N = 0)
    ∧ transitionBin s.params s.cfg.N s.bx.untilEvent
        = ((sampleCount - nextEvent) % s.cfg.N).toNat / s.params.zcDiv
    ∧ t.bx.untilEvent = next' - (sampleCount + 1) ∧ (t.bx.phase : Int) = (sampleCount + 1) % s.cfg.N

/-! ## Frame synchronizer -/

/-- SYNC.SQL: signal loss leads from any other state to NoSignal with the flag armed, the synchronizer, the decoders
and the filter histories cleared; a signal leads from NoSignal to Hunting; otherwise nothing happens (R161, R162). The
model's choices in it: the unselected decoder is cleared with the selected one (log 21, deduced from R51), and the
content of `sync.rec` is drawn anew (log 11). -/
def Obligations.SyncSqlEffect : Prop :=
  ∀ (s : State),
    let zero := s.params.num.ops.const 0
    (s.sync.state = .noSignal → exec (.syncSql false) s = .next s)
    ∧ (s.sync.state ≠ .noSignal → ∃ (free : List RawCode) (n : Nat),
      free.length = s.params.confirmN ∧ (∀ c ∈ free, c.toNat < 2 ^ s.cfg.T)
      ∧ exec (.syncSql false) s = .next { s with
        sync := ⟨.noSignal, true, 0, 0, 0, 0, free, 0, false⟩
        ita2 := ⟨false, false, 0⟩
        fec := ⟨false, 0, 0, 0, false⟩
        filt := ⟨⟨s.filt.mark.coef, zero, zero, zero, zero⟩, ⟨s.filt.space.coef, zero, zero, zero, zero⟩,
          ⟨s.filt.lp.coef, zero, zero, zero, zero⟩⟩
        out := s.out ++ [.state .noSignal]
        freeCount := n })
    ∧ (s.sync.state = .noSignal → exec (.syncSql true) s = .next { s with
        sync := { s.sync with state := .hunting }, out := s.out ++ [.state .hunting] })
    ∧ (s.sync.state ≠ .noSignal → exec (.syncSql true) s = .next s)

/-- The resync flag is consumed first: the bit is processed as from a cleared synchronizer, a reset decoder and the
flag down, in Hunting (R163, R164). -/
def Obligations.SyncBitConsumesResync : Prop :=
  ∀ (bit : Bool) (s : State), s.sync.resync = true → ∃ s1,
    exec .decRst s = .next s1
    ∧ exec (.syncBit bit) s = exec (.syncBit bit) { s1 with
        sync := { s.sync with
          state := .hunting, resync := false, code := 0, bitCount := 0, fill := 0, validCount := 0, errCount := 0
          waitSpace := false }
        out := if s.sync.state = .hunting then s.out else s.out ++ [.state .hunting] }

/-- A symbol bit in Hunting: the window slides; only a full window is tested; a valid one is recorded and leads to
Confirming (R165, R166). -/
def Obligations.HuntingBitEffect : Prop :=
  ∀ (bit : Bool) (s : State), s.sync.resync = false → s.sync.state = .hunting →
    let code := (s.sync.code >>> 1) ||| (if bit then s.cfg.msb else 0)
    let fill := min s.cfg.T (s.sync.fill + 1)
    exec (.syncBit bit) s =
      if fill = s.cfg.T ∧ decCheck s code = true then .next { s with
        sync := { s.sync with
          recd := s.sync.recd.set 0 code, validCount := 1, code := 0, bitCount := 0, fill := fill
          state := .confirming }
        out := s.out ++ [.state .confirming] }
      else .next { s with sync := { s.sync with code := code, fill := fill } }

/-- A symbol bit in Confirming that does not complete the acquisition: inside a group it is shifted in; a valid group
is recorded; an invalid one arms the resync flag and leads to Hunting (R167, R168). -/
def Obligations.ConfirmingBitEffect : Prop :=
  ∀ (bit : Bool) (s : State), s.sync.resync = false → s.sync.state = .confirming →
    let code := (s.sync.code >>> 1) ||| (if bit then s.cfg.msb else 0)
    (s.sync.bitCount + 1 ≠ s.cfg.T → exec (.syncBit bit) s = .next { s with
      sync := { s.sync with code := code, bitCount := s.sync.bitCount + 1 } })
    ∧ (s.sync.bitCount + 1 = s.cfg.T → decCheck s code = true → s.sync.validCount + 1 ≠ s.params.confirmN →
      exec (.syncBit bit) s = .next { s with sync := { s.sync with
        recd := s.sync.recd.set s.sync.validCount code, validCount := s.sync.validCount + 1
        code := 0, bitCount := 0 } })
    ∧ (s.sync.bitCount + 1 = s.cfg.T → decCheck s code = false → exec (.syncBit bit) s = .next { s with
        sync := { s.sync with code := 0, bitCount := 0, resync := true, state := .hunting }
        out := s.out ++ [.state .hunting] })

/-- The group that completes the acquisition: the three recorded frames and this one go through DEC.CHAR in order,
each character is emitted, and then SteadyState is entered (R168, R169; `CONFIRM_N` is the source's 4). -/
def Obligations.FourthValidGroupFlushes : Prop :=
  ∀ (bit : Bool) (s : State) (r0 r1 r2 r3 : RawCode),
    s.sync.resync = false → s.sync.state = .confirming → s.sync.bitCount + 1 = s.cfg.T →
    s.params.confirmN = 4 → s.sync.validCount = 3 → s.sync.recd = [r0, r1, r2, r3] →
    let code := (s.sync.code >>> 1) ||| (if bit then s.cfg.msb else 0)
    decCheck s code = true →
    ∃ d0 d1 d2 d3 c0 c1 c2 c3 k0 k1 k2 k3,
      exec (.decChar r0) s = .next d0 ∧ d0.ret = .charOk c0 k0 ∧ exec (.decChar r1) d0 = .next d1
      ∧ d1.ret = .charOk c1 k1 ∧ exec (.decChar r2) d1 = .next d2 ∧ d2.ret = .charOk c2 k2
      ∧ exec (.decChar code) d2 = .next d3 ∧ d3.ret = .charOk c3 k3
      ∧ exec (.syncBit bit) s = .next { s with
          ita2 := d3.ita2, fec := d3.fec, diag := d3.diag
          sync := { s.sync with
            recd := [r0, r1, r2, code], validCount := 0, code := 0, bitCount := 0, state := .steadyState }
          out := s.out ++ ([c0, c1, c2, c3].filterMap id).map .char ++ [.state .steadyState] }

/-- A symbol bit in SteadyState inside a group, and the variable-stop wait: a mark is discarded while the wait is armed,
a space ends it and is shifted in (R170, R172). -/
def Obligations.SteadyBitInsideGroup : Prop :=
  ∀ (bit : Bool) (s : State), s.sync.resync = false → s.sync.state = .steadyState →
    (s.sync.waitSpace = true → bit = true → exec (.syncBit bit) s = .next s)
    ∧ ((s.sync.waitSpace = false ∨ bit = false) → s.sync.bitCount + 1 ≠ s.cfg.T →
      exec (.syncBit bit) s = .next { s with sync := { s.sync with
        code := (s.sync.code >>> 1) ||| (if bit then s.cfg.msb else 0)
        bitCount := s.sync.bitCount + 1, waitSpace := false } })

/-- The bit that completes a group in SteadyState: DEC.CHAR, the character event, the error count with its forced
resynchronisation past `ERR_LIMIT`, and the variable-stop wait (R170, R171, R172). -/
def Obligations.SteadyGroupEffect : Prop :=
  ∀ (bit : Bool) (s : State), s.sync.resync = false → s.sync.state = .steadyState →
    (s.sync.waitSpace = false ∨ bit = false) → s.sync.bitCount + 1 = s.cfg.T →
    let code := (s.sync.code >>> 1) ||| (if bit then s.cfg.msb else 0)
    ∃ d c ok, exec (.decChar code) s = .next d ∧ d.ret = .charOk c ok
      ∧ (let errCount := if ok then s.sync.errCount - 1 else s.sync.errCount + 1
         let forced := !ok && decide (errCount > s.params.errLimit)
         exec (.syncBit bit) s = .next { s with
          ita2 := d.ita2, fec := d.fec, diag := d.diag
          sync := { s.sync with
            code := 0, bitCount := 0, errCount := errCount
            waitSpace := !forced && s.cfg.desc.varStop
            resync := forced, state := if forced then .hunting else .steadyState }
          out := s.out ++ c.toList.map .char ++ (if forced then [.state .hunting] else []) })

/-- The transitions of R174 and no other, with a `State` event exactly when the state changes (R173, R174). A bit that
finds the resync flag armed is left to `SyncBitConsumesResync`. -/
def Obligations.TransitionsAndStateEvents : Prop :=
  ∀ (s t : State),
    let stateEvents (l : List Event) : List SyncState := l.filterMap (fun e => match e with
      | .state q => some q
      | _ => none)
    (∀ present, exec (.syncSql present) s = .next t →
      ((s.sync.state = t.sync.state ∧ t.out = s.out)
        ∨ (present = false ∧ s.sync.state ≠ .noSignal ∧ t.sync.state = .noSignal
          ∧ t.out = s.out ++ [.state .noSignal])
        ∨ (present = true ∧ s.sync.state = .noSignal ∧ t.sync.state = .hunting ∧ t.out = s.out ++ [.state .hunting])))
    ∧ (∀ bit, s.sync.resync = false → exec (.syncBit bit) s = .next t →
      ((s.sync.state = t.sync.state ∧ stateEvents t.out = stateEvents s.out)
        ∨ ((s.sync.state, t.sync.state) ∈ [(SyncState.hunting, SyncState.confirming), (.confirming, .steadyState),
            (.confirming, .hunting), (.steadyState, .hunting)]
          ∧ stateEvents t.out = stateEvents s.out ++ [t.sync.state])))

/-- The squelch invariant in the form of R175: as long as the running average stays below the floor after every sample,
the state stays NoSignal and no character is emitted. -/
def Obligations.SquelchInvariant : Prop :=
  ∀ (xs : List Sample) (states : List State) (s : State),
    s.sync.state = .noSignal →
    states.length = xs.length →
    (∀ k x t, xs[k]? = some x → states[k]? = some t →
      exec (.sample x) (if k = 0 then s else states.getD (k - 1) s) = .next t ∧ t.ctl.err = .ok
        ∧ s.params.num.ops.lt t.bx.avg (s.params.num.ops.const s.params.signalFloor) = true) →
    ∀ t ∈ states, t.sync.state = .noSignal ∧ ∀ c, Event.char c ∉ t.out

/-- The output list of an accepted sample in a sound state: at most one `TimingError`, first; at most one `State`; at
most `CONFIRM_N` `Char`, four by default (R272). -/
def Obligations.OutputListBounds : Prop :=
  ∀ (x : Sample) (s t : State), Sound s → s.ctl.running = true → exec (.sample x) s = .next t →
    ∃ (te : List Int) (before : List Scalar) (st : List SyncState),
      t.out = te.map .timingError ++ before.map .char ++ st.map .state
      ∧ te.length ≤ 1 ∧ before.length ≤ s.params.confirmN ∧ st.length ≤ 1

/-! ## Received frames -/

/-- A frame whose bits arrive one after another at a group boundary in SteadyState is decoded as one group: its raw
code, assembled bit by bit, is exactly the encoder's word, and what happens is what SYNC.BIT does with the completed
group. That a frame word stands for its `T` symbol bits is the model's choice (log 2). -/
def Obligations.FrameArrivesAsOneGroup : Prop :=
  ∀ (spec : FramingSpec) (data : DataCode) (s : State),
    s.ctl.constructed = true → s.ctl.running = true →
    s.cfg.desc = descriptorOf spec → s.cfg.T = spec.totalBits → s.cfg.msb = (1 : RawCode) <<< (spec.totalBits - 1) →
    s.sync.state = .steadyState → s.sync.resync = false → s.sync.bitCount = 0 → s.sync.code = 0 →
    (spec = .fourOfSeven → s.sync.waitSpace = false) →
    ∃ w, encode (frameRow spec data) = some (.frame spec, w)
      ∧ exec (frameRow spec data) s = .next (steadyGroup s.params { s with
          out := [], sync := { s.sync with code := w, bitCount := spec.totalBits, waitSpace := false } })

/-- A valid asynchronous frame in SteadyState under the ASCII encoding: exactly one character, the data field; one
success; one error paid back (R198, R252, R254). That a frame word stands for its `T` symbol bits is the model's choice
(log 2). -/
def Obligations.AsciiFrameEmitsItsData : Prop :=
  ∀ (d : DataBits) (st : StopBits) (efr : Bool) (data : DataCode) (s : State),
    s.ctl.constructed = true → s.ctl.running = true → s.cfg.enc = .ascii →
    s.cfg.desc = descriptorOf (.async d st efr) → s.cfg.T = (FramingSpec.async d st efr).totalBits →
    s.cfg.msb = (1 : RawCode) <<< ((FramingSpec.async d st efr).totalBits - 1) → data.toNat < 2 ^ d.count →
    s.sync.state = .steadyState → s.sync.resync = false → s.sync.bitCount = 0 → s.sync.code = 0 →
    exec (frameRow (.async d st efr) data) s = .next { s with
      out := [.char (data.zeroExtend 21)]
      diag := { s.diag with succTally := min (s.diag.succTally + 1) (2 ^ s.params.tallyW - 1) }
      sync := { s.sync with errCount := s.sync.errCount - 1, waitSpace := efr } }

/-- Stopped, "nothing runs, all state is kept" (R304): no frame and no code word changes anything, as an instruction or,
legal or not, as the next word of a step, which takes it from the inbox and leaves no event. That such words can be
presented on their own is the model's choice (log 2, log 3). -/
def Obligations.StoppedBlockReceivesNoFrame : Prop :=
  ∀ (s : State), s.ctl.running = false →
    (∀ (spec : FramingSpec) (data : DataCode), exec (frameRow spec data) s = .next s)
    ∧ (∀ d, exec (decodeIta2 d) s = .next s) ∧ (∀ d, exec (decodeCcir476 d) s = .next s)
    ∧ (∀ d, exec (.asciiCode7 d) s = .next s) ∧ (∀ d, exec (.asciiCode8 d) s = .next s)
    ∧ (∀ sp w rest, sp ≠ .command → w.toNat < 2 ^ sp.width → s.inbox = .word sp w :: rest →
      step s = .next { s with inbox := rest, out := [] })

/-! ## Framing parser and validator -/

/-- The descriptors of R192, by string; the suffix `EFR` adds `varStop`. -/
def Obligations.FrmParseTable : Prop :=
  let rows : List (List Char × Descriptor) := [
    (['5', 'N', '1'], ⟨1, 5, .one, 7, false, false⟩), (['5', 'N', '1', '.', '5'], ⟨1, 5, .oneAndHalf, 15, true, false⟩),
    (['5', 'N', '2'], ⟨1, 5, .two, 8, false, false⟩), (['7', 'N', '1'], ⟨1, 7, .one, 9, false, false⟩),
    (['7', 'N', '1', '.', '5'], ⟨1, 7, .oneAndHalf, 19, true, false⟩), (['7', 'N', '2'], ⟨1, 7, .two, 10, false, false⟩),
    (['8', 'N', '1'], ⟨1, 8, .one, 10, false, false⟩), (['8', 'N', '1', '.', '5'], ⟨1, 8, .oneAndHalf, 21, true, false⟩),
    (['8', 'N', '2'], ⟨1, 8, .two, 11, false, false⟩)]
  ∀ (text : PortText) (s : State) (d : Descriptor),
    exec (.frmParse text) s = .next { s with ret := .descriptor (frmParse text) }
    ∧ (frmParse text = some d ↔
      (portString text = asciiBytes ['4', '/', '7'] ∧ d = ⟨0, 7, .none, 7, false, false⟩)
      ∨ ∃ r ∈ rows, (portString text = asciiBytes r.1 ∧ d = r.2)
          ∨ (portString text = asciiBytes (r.1 ++ ['E', 'F', 'R']) ∧ d = { r.2 with varStop := true }))

/-- FRM.CHECK of a non-doubled and of a doubled frame, bit by bit, with no side effect (R194, R195). -/
def Obligations.FrmCheckEffect : Prop :=
  ∀ (d : DataBits) (efr : Bool) (code : RawCode) (s : State),
    (s.cfg.desc = descriptorOf (.async d .one efr) → exec (.frmCheck code) s =
      .next { s with ret := .flag (!code.getLsbD 0 && code.getLsbD (d.count + 1)) })
    ∧ (s.cfg.desc = descriptorOf (.async d .two efr) → exec (.frmCheck code) s =
      .next { s with ret := .flag (!code.getLsbD 0 && code.getLsbD (d.count + 1) && code.getLsbD (d.count + 2)) })
    ∧ (s.cfg.desc = descriptorOf (.async d .oneAndHalf efr) →
      let valid := !code.getLsbD 0 && !code.getLsbD 1
        && code.getLsbD (2 * d.count + 2) && code.getLsbD (2 * d.count + 3) && code.getLsbD (2 * d.count + 4)
        && (List.range d.count).all (fun i => code.getLsbD (2 * i + 2) == code.getLsbD (2 * i + 3))
      exec (.frmCheck code) s = .next { s with ret := .flag valid }
      ∧ exec (.frmCheckDoubled code) s = .next { s with ret := .flag valid })

/-- FRM.EXTRACT, bit by bit: the middle field, the lower bit of each pair, or the whole group (R196). -/
def Obligations.FrmExtractEffect : Prop :=
  ∀ (spec : FramingSpec) (code : RawCode) (s : State), s.cfg.desc = descriptorOf spec → ∃ v : DataCode,
    exec (.frmExtract code) s = .next { s with ret := .data v }
    ∧ ∀ i, v.getLsbD i = (match spec with
      | .fourOfSeven => decide (i < 7) && code.getLsbD i
      | .async d .oneAndHalf _ => decide (i < d.count) && code.getLsbD (2 * i + 2)
      | .async d _ _ => decide (i < d.count) && code.getLsbD (i + 1))

/-- DEC.CHECK, DEC.CHAR and DEC.RST are the case split over the selected encoding (R197, R198, R199). -/
def Obligations.DecoderDispatch : Prop :=
  ∀ (code : RawCode) (s : State),
    (∃ v t u, exec (.decCheck code) s = .next { s with ret := .flag v } ∧ exec (.decChar code) s = .next t
      ∧ exec .decRst s = .next u)
    ∧ (s.cfg.enc = .ccir476 →
      exec (.decCheck code) s = exec (.fecCheck (code.truncate 7)) s
      ∧ exec (.decChar code) s = exec (.fecChar (code.truncate 7)) s ∧ exec .decRst s = exec .fecRst s)
    ∧ (s.cfg.enc ≠ .ccir476 →
      exec (.decCheck code) s = exec (.frmCheck code) s
      ∧ (frmCheck s.cfg.desc code = false → exec (.decChar code) s = .next { s with
          diag := { s.diag with failTally := min (s.diag.failTally + 1) (2 ^ s.params.tallyW - 1) }, ret := .charOk none false }))
    ∧ (s.cfg.enc = .ita2 → exec .decRst s = exec .ita2Rst s)
    ∧ (s.cfg.enc = .ascii → exec .decRst s = exec .ascRst s)
    ∧ (s.cfg.enc = .ita2 → frmCheck s.cfg.desc code = true → ∃ t c,
        exec (.ita2Char ((frmExtract s.cfg.desc code).truncate 5)) s = .next t ∧ t.ret = .char c
        ∧ exec (.decChar code) s = .next { t with
          diag := { s.diag with succTally := min (s.diag.succTally + 1) (2 ^ s.params.tallyW - 1) }, ret := .charOk c true })
    ∧ (s.cfg.enc = .ascii → frmCheck s.cfg.desc code = true → ∃ t c,
        exec (.ascChar (frmExtract s.cfg.desc code)) s = .next t ∧ t.ret = .char c
        ∧ exec (.decChar code) s = .next { t with
          diag := { s.diag with succTally := min (s.diag.succTally + 1) (2 ^ s.params.tallyW - 1) }, ret := .charOk c true })

/-! ## 4-of-7 decoder -/

/-- FEC.CHECK is true exactly for the codes with four bits set (R211); FEC.RST puts the whole decoder state to its
reset value and leaves the tallies (R216). -/
def Obligations.FecCheckAndReset : Prop :=
  ∀ (d : BitVec 7) (s : State), exec .fecRst s = .next { s with fec := ⟨false, 0, 0, 0, false⟩ } ∧ exec (.fecCheck d) s = .next { s with ret := .flag (decide (
    (d.getLsbD 0).toNat + (d.getLsbD 1).toNat + (d.getLsbD 2).toNat + (d.getLsbD 3).toNat + (d.getLsbD 4).toNat
      + (d.getLsbD 5).toNat + (d.getLsbD 6).toNat = 4)) }

/-- FEC.CHAR: the slot, the delay line, the decision of an alpha slot with its tallies, the interpretation of the chosen
code, and the alternation (R214, R215). Every one of the 128 code words is FEC.CHAR of its code in a block constructed
with CCIR476 that runs and is not squelched, and touches nothing in any other (R44, R304); that a code word runs FEC.CHAR
on its own is the model's choice (log 3). -/
def Obligations.FecCharEffect : Prop :=
  ∀ (d : BitVec 7) (s : State),
    let alpha := if d = 0x66 then false else if d = 0x0F then true else s.fec.alphaPhase
    let ok := fecCheck d
    let result : Host.Outcome State Fault Refusal :=
      if alpha = false then .next { s with
        fec := { s.fec with c1 := s.fec.c2, c2 := s.fec.c3, c3 := d, alphaPhase := true }, ret := .charOk none ok }
      else if ok = false ∧ fecCheck s.fec.c1 = false then .next { s with
        fec := { s.fec with alphaPhase := false }
        diag := { s.diag with failTally := min (s.diag.failTally + 1) (2 ^ s.params.tallyW - 1) }, ret := .charOk none ok }
      else
        let v := if ok then d else s.fec.c1
        .next { s with
          fec := { s.fec with
            alphaPhase := false
            shift := if v = 0x5A then false else if v = 0x36 then true else s.fec.shift }
          diag := { s.diag with succTally := min (s.diag.succTally + 1) (2 ^ s.params.tallyW - 1) }
          ret := .charOk (if v ∈ [0x66, 0x0F, 0x33, 0x6A, 0x5A, 0x36] then none
            else if s.fec.shift then s.params.fecFigs.at v else s.params.fecLtrs.at v) ok }
    let atWork := s.ctl.constructed = true ∧ s.ctl.running = true ∧ s.cfg.enc = .ccir476 ∧ s.sync.state ≠ .noSignal
    exec (.fecChar d) s = result
    ∧ (atWork → exec (decodeCcir476 d) s = result) ∧ (¬atWork → exec (decodeCcir476 d) s = .next s)

/-- The default glyph tables row by row, R236 in the order of the codes and R218 code by code, every other 7-bit value printing
nothing; every printing code of weight four has an ITA2 partner with the same letter and the same figure, and a code of
another weight prints nothing (the glyphs are the spec's default tables, log 17). -/
def Obligations.GlyphTablesCorrespond : Prop :=
  let ita2Rows : List (Option Scalar × Option Scalar) := [
      (none, none), (some 0x45, some 0x33), (some 0x0A, some 0x0A), (some 0x41, some 0x2D),
      (some 0x20, some 0x20), (some 0x53, some 0x27), (some 0x49, some 0x38), (some 0x55, some 0x37),
      (some 0x0D, some 0x0D), (some 0x44, some 0x05), (some 0x52, some 0x34), (some 0x4A, some 0x07),
      (some 0x4E, some 0x2C), (some 0x46, some 0x21), (some 0x43, some 0x3A), (some 0x4B, some 0x28),
      (some 0x54, some 0x35), (some 0x5A, some 0x2B), (some 0x4C, some 0x29), (some 0x57, some 0x32),
      (some 0x48, some 0x23), (some 0x59, some 0x36), (some 0x50, some 0x30), (some 0x51, some 0x31),
      (some 0x4F, some 0x39), (some 0x42, some 0x3F), (some 0x47, some 0x26), (none, none),
      (some 0x4D, some 0x2E), (some 0x58, some 0x2F), (some 0x56, some 0x3D), (none, none)]
  let fecRows : List (BitVec 7 × Scalar × Scalar) := [
      (0x17, 0x4A, 0x07), (0x1B, 0x46, 0x21), (0x1D, 0x43, 0x3A), (0x1E, 0x4B, 0x28), (0x27, 0x57, 0x32),
      (0x2B, 0x59, 0x36), (0x2D, 0x50, 0x30), (0x2E, 0x51, 0x31), (0x35, 0x47, 0x26), (0x39, 0x4D, 0x2E),
      (0x3A, 0x58, 0x2F), (0x3C, 0x56, 0x3D), (0x47, 0x41, 0x2D), (0x4B, 0x53, 0x27), (0x4D, 0x49, 0x38),
      (0x4E, 0x55, 0x37), (0x53, 0x44, 0x05), (0x55, 0x52, 0x34), (0x56, 0x45, 0x33), (0x59, 0x4E, 0x2C),
      (0x5C, 0x20, 0x20), (0x63, 0x5A, 0x2B), (0x65, 0x4C, 0x29), (0x69, 0x48, 0x23), (0x6C, 0x0A, 0x0A),
      (0x71, 0x4F, 0x39), (0x72, 0x42, 0x3F), (0x74, 0x54, 0x35), (0x78, 0x0D, 0x0D)]
  let P := State.reset.params
  ita2Rows.length = 32
  ∧ (∀ d : BitVec 5, ita2Rows[d.toNat]? = some (P.ita2Ltrs.at d, P.ita2Figs.at d))
  ∧ fecRows.map (fun r => (P.fecLtrs.at r.1, P.fecFigs.at r.1)) = fecRows.map (fun r => (some r.2.1, some r.2.2))
  ∧ (∀ v : BitVec 7, v ∉ fecRows.map (·.1) → P.fecLtrs.at v = none ∧ P.fecFigs.at v = none)
  ∧ ∀ v : BitVec 7,
    (fecCheck v = false → P.fecLtrs.at v = none ∧ P.fecFigs.at v = none)
    ∧ (fecCheck v = true → v ∉ [0x66, 0x0F, 0x33, 0x6A, 0x5A, 0x36] →
      ∃ d : BitVec 5, P.fecLtrs.at v = P.ita2Ltrs.at d ∧ P.fecFigs.at v = P.ita2Figs.at d ∧ (P.fecLtrs.at v).isSome)

/-! ## ITA2 decoder -/

/-- ITA2.CHAR: the code received now is buffered; the previous code flips the shift; a shift code and the first code after
a reset print nothing (R233); a space that is decoded returns the shift to Letters with `USOS` on and changes nothing with
it off (R234). Every one of the 32 code words is ITA2.CHAR of its
code in a block constructed with ITA2 that runs and is not squelched, and touches nothing in any other (R44, R304); that a
code word runs ITA2.CHAR on its own is the model's choice (log 3). -/
def Obligations.Ita2CharEffect : Prop :=
  ∀ (d : BitVec 5) (s : State),
    let shift := if s.ita2.lookValid = false then s.ita2.shift
      else if s.ita2.look = 0x1B then true else if s.ita2.look = 0x1F then false else s.ita2.shift
    let c := if s.ita2.lookValid = false ∨ d = 0x1B ∨ d = 0x1F then none
      else if shift then s.params.ita2Figs.at d else s.params.ita2Ltrs.at d
    let unshift := s.params.usos = true ∧ s.ita2.lookValid = true ∧ d = 0x04
    let result : Host.Outcome State Fault Refusal :=
      .next { s with ita2 := ⟨if unshift then false else shift, true, d⟩, ret := .char c }
    let atWork := s.ctl.constructed = true ∧ s.ctl.running = true ∧ s.cfg.enc = .ita2 ∧ s.sync.state ≠ .noSignal
    exec (.ita2Char d) s = result
    ∧ (atWork → exec (decodeIta2 d) s = result) ∧ (¬atWork → exec (decodeIta2 d) s = .next s)

/-- The first call after ITA2.RST yields no character; from then on a call's character depends on its own code and on
the last shift code before it (R233, R235), a space counting as a Letters shift with `USOS` on (R234): after any run of
codes, the shift and the character of one more call are decided by the last such code of that run. -/
def Obligations.Ita2ShiftFollowsLastShiftCode : Prop :=
  ∀ (codes : List (BitVec 5)) (last : BitVec 5) (s : State),
    let run (st : State) (d : BitVec 5) : State := (ita2Char s.params d st).1
    let unshifts (d : BitVec 5) : Bool := s.params.usos && decide (d = 0x04)
    let lastShift := (codes.filter (fun d => decide (d = 0x1B ∨ d = 0x1F) || unshifts d)).getLast?
    let figures := decide (lastShift = some 0x1B)
    let c := if codes = [] ∨ last = 0x1B ∨ last = 0x1F then none
      else if figures then s.params.ita2Figs.at last else s.params.ita2Ltrs.at last
    exec (.ita2Char last) (codes.foldl run (ita2Rst s))
      = .next { s with ita2 := ⟨figures && !unshifts last, true, last⟩, ret := .char c }

/-- ITA2.CHECK is always true; ITA2.RST returns to Letters with an empty lookback (R231, R235). -/
def Obligations.Ita2CheckAndReset : Prop :=
  ∀ (d : BitVec 5) (s : State),
    exec (.ita2Check d) s = .next { s with ret := .flag true }
    ∧ exec .ita2Rst s = .next { s with ita2 := ⟨false, false, 0⟩ }

/-! ## ASCII decoder -/

/-- ASC.CHAR is the identity modulo the mask of the framing descriptor; ASC.CHECK is always true and ASC.RST has no
effect (R250, R251, R252, R253). The code words are ASC.CHAR under that same mask, with no mode of their own, in a block
constructed with ASCII that runs and is not squelched, and touch nothing in any other (R44, R304); that a code word runs
ASC.CHAR on its own is the model's choice (log 3). -/
def Obligations.AsciiPassThrough : Prop :=
  ∀ (d : DataCode) (d7 : BitVec 7) (s : State),
    let atWork := s.ctl.constructed = true ∧ s.ctl.running = true ∧ s.cfg.enc = .ascii ∧ s.sync.state ≠ .noSignal
    (s.cfg.desc.dataBits = 7 → exec (.ascChar d) s = .next { s with ret := .char (some ((d &&& 0x7F).zeroExtend 21)) })
    ∧ (s.cfg.desc.dataBits ≠ 7 → exec (.ascChar d) s = .next { s with ret := .char (some (d.zeroExtend 21)) })
    ∧ (atWork → exec (.asciiCode7 d7) s = .next { s with ret := .char (some (d7.zeroExtend 21)) })
    ∧ (atWork → s.cfg.desc.dataBits = 7 →
      exec (.asciiCode8 d) s = .next { s with ret := .char (some ((d &&& 0x7F).zeroExtend 21)) })
    ∧ (atWork → s.cfg.desc.dataBits ≠ 7 → exec (.asciiCode8 d) s = .next { s with ret := .char (some (d.zeroExtend 21)) })
    ∧ (¬atWork → exec (.asciiCode7 d7) s = .next s ∧ exec (.asciiCode8 d) s = .next s)
    ∧ exec (.ascCheck d) s = .next { s with ret := .flag true }
    ∧ exec .ascRst s = .next s
end

