-- ==== Sys2Proof/Laws/Checks.lean ====
section
/-! SUPPORT. The executable checks of CONSTRUCT are the tests of R264, R265 and R266; the width of port 9 is the one
of R49; a table answers its function's values; and every operation of a binary format answers a value of the format. -/

namespace Sys2Proof.Machine

theorem portIs_iff (t : PortText) (name : List Char) : portIs t name = true ↔ portString t = asciiBytes name := by
  simp [portIs]

/-- The three names select different encodings. -/
theorem encodingName_inj (a b : Encoding) (h : asciiBytes (encodingName a) = asciiBytes (encodingName b)) : a = b := by
  revert h
  cases a <;> cases b <;> decide

/-- ENC_SELECT answers exactly the encoding that the text names (R264). -/
theorem encSelect_eq_some_iff (t : PortText) (enc : Encoding) : encSelect t = some enc ↔ NamesEncoding t enc := by
  have names : ∀ e, NamesEncoding t e ↔ portIs t (encodingName e) = true := fun e => (portIs_iff t (encodingName e)).symm
  have uniq : ∀ a b, portIs t (encodingName a) = true → portIs t (encodingName b) = true → a = b := fun a b ha hb =>
    encodingName_inj a b (((portIs_iff ..).1 ha).symm.trans ((portIs_iff ..).1 hb))
  rw [names]
  change (if portIs t (encodingName .ccir476) then some Encoding.ccir476 else if portIs t (encodingName .ita2) then some .ita2
    else if portIs t (encodingName .ascii) then some .ascii else none) = some enc ↔ _
  split
  · next h => exact ⟨fun e => Option.some.inj e ▸ h, fun e => congrArg some (uniq _ _ h e)⟩
  · next h1 =>
    split
    · next h => exact ⟨fun e => Option.some.inj e ▸ h, fun e => congrArg some (uniq _ _ h e)⟩
    · next h2 =>
      split
      · next h => exact ⟨fun e => Option.some.inj e ▸ h, fun e => congrArg some (uniq _ _ h e)⟩
      · next h3 => cases enc <;> simp_all

theorem encSelect_eq_none_iff (t : PortText) : encSelect t = none ↔ ∀ enc, ¬NamesEncoding t enc := by
  simp only [← encSelect_eq_some_iff]
  cases encSelect t <;> simp

/-- COMBO_OK is R265. -/
theorem comboOk_iff (enc : Encoding) (d : Descriptor) : comboOk enc d = true ↔ PairLegal enc d := by
  cases enc <;> exact decide_eq_true_iff

theorem clampBaud_eq (baud : Rat) : clampBaud baud = max baud 10 := by
  unfold clampBaud
  split
  · next h => exact (max_eq_right h.le).symm
  · next h => exact (max_eq_left (not_lt.1 h)).symm

/-- CONFIG_OK of the latched values is R266 of the port values. -/
theorem configOk_iff (P : Params) (p : ConfigPorts) (d : Descriptor) (enc : Encoding) :
    configOk P (latch P p d enc) = true ↔ ConfigLegal P p d := by
  have rate : (1000 : Rat) ≤ p.sampleRate.toNat ↔ 1000 ≤ p.sampleRate.toNat := by exact_mod_cast Iff.rfl
  have k : ((symbolsPerBit d : Nat) : Rat) = if d.doubled then 2 else 1 := by
    unfold symbolsPerBit
    split <;> norm_num
  have period : ∀ q : Rat, 2 ≤ (roundHalfUp q).toNat ↔ 2 ≤ (q + 1 / 2).floor := fun q => by
    unfold roundHalfUp
    omega
  simp only [configOk, latch, ConfigLegal, symbolPeriod, period, rate, clampBaud_eq, k, Bool.and_eq_true,
    decide_eq_true_eq, and_assoc]

/-! ## The parameters -/

/-- A table of a function answers the function's values. -/
@[simp] theorem GlyphTable_tabulate_at {w : Nat} (f : BitVec w → Option Scalar) (d : BitVec w) :
    (GlyphTable.tabulate f).at d = f d := by
  obtain ⟨i⟩ := d
  exact Vector.getElem_ofFn i.isLt

theorem magnitude_pack (F : BinaryFormat) (neg : Bool) (m : Nat) : F.magnitude (F.pack neg m) = m % 2 ^ F.signPlace := by
  cases neg <;> simp [BinaryFormat.magnitude, BinaryFormat.pack]

theorem isNeg_pack (F : BinaryFormat) (neg : Bool) (m : Nat) : F.isNeg (F.pack neg m) = neg := by
  have h := Nat.testBit_lt_two_pow (Nat.mod_lt m (Nat.two_pow_pos F.signPlace))
  cases neg
  · simp [BinaryFormat.isNeg, BinaryFormat.pack, h]
  · simp only [BinaryFormat.isNeg, BinaryFormat.pack, if_true, Nat.add_comm, Nat.testBit_two_pow_add_eq, h, Bool.not_false]

/-- What a sign and a magnitude are packed to is a value of the format. -/
theorem datum_pack (F : BinaryFormat) (neg : Bool) (m : Nat) : F.datum (F.pack neg m) = F.pack neg m := by
  rw [BinaryFormat.datum, isNeg_pack, magnitude_pack]
  simp [BinaryFormat.pack]

/-- Every result of the arithmetic is a value of the format. -/
theorem arithmetic_datum (F : BinaryFormat) (a b : Number) :
    F.datum (F.add a b) = F.add a b ∧ F.datum (F.sub a b) = F.sub a b ∧ F.datum (F.mul a b) = F.mul a b
    ∧ F.datum (F.div a b) = F.div a b ∧ F.datum (F.abs a) = F.abs a ∧ F.datum (F.max a b) = F.max a b := by
  have add : ∀ x y, F.datum (F.add x y) = F.add x y := fun x y => by
    unfold BinaryFormat.add
    repeat' split
    all_goals exact datum_pack F _ _
  refine ⟨add a b, add a _, ?_, ?_, ?_, datum_pack F _ _⟩
  · simp only [BinaryFormat.mul]
    repeat' split
    all_goals exact datum_pack F _ _
  · simp only [BinaryFormat.div]
    repeat' split
    all_goals exact datum_pack F _ _
  · unfold BinaryFormat.abs
    split <;> exact datum_pack F _ _

/-- Every sample and every constant is read as a value of the format. -/
theorem constant_datum (F : BinaryFormat) (x : Sample) (q : Rat) :
    F.datum (F.ofSample x) = F.ofSample x ∧ F.datum (F.ofRat q) = F.ofRat q := by
  constructor
  · unfold BinaryFormat.ofSample
    split <;> exact datum_pack F _ _
  · unfold BinaryFormat.ofRat
    split <;> exact datum_pack F _ _

/-- Every value that `datum` answers is a value of the format. -/
theorem datum_datum (fmt : NumFormat) (a : Number) : fmt.datum (fmt.datum a) = fmt.datum a := by
  cases fmt with
  | ieee F => exact datum_pack F _ _
  | other _ => rfl

/-- The width of port 9 (R49). -/
theorem ceilLog2_eq_clog (n : Nat) : ceilLog2 n = Nat.clog 2 n := by
  unfold ceilLog2
  split
  · next h => exact (Nat.clog_of_right_le_one h 2).symm
  · next h =>
    refine le_antisymm ?_ ?_
    · exact (Nat.lt_clog_iff_pow_lt (by decide)).2 (by
        have := Nat.log2_self_le (n := n - 1) (by omega)
        omega)
    · refine Nat.clog_le_of_le_pow ?_
      have := Nat.lt_log2_self (n := n - 1)
      omega

end Sys2Proof.Machine
end

