-- ==== Sys2Proof/Laws/Ops.lean ====
section
/-! SUPPORT. The frame of each shared operation, as one equation: the state it answers is the given one with at most
the named groups changed. Cited by projecting, as in `congrArg State.cfg (syncBit_frame P bit s)`. -/

namespace Sys2Proof.Machine

/-! ## Ops -/

theorem raise_frame (e : ErrCode) (s : State) : raise e s = { s with ctl := { s.ctl with err := e } } := rfl

theorem emit_frame (e : Event) (s : State) : emit e s = { s with out := s.out ++ [e] } := rfl

theorem emitChar_frame (c : Option Scalar) (s : State) :
    emitChar c s = { s with out := s.out ++ c.toList.map .char } := by
  cases c with
  | none => simp [emitChar]
  | some c => rfl

theorem enterState_frame (q : SyncState) (s : State) :
    enterState q s = { s with sync := { s.sync with state := q }, out := s.out ++ [.state q] } := rfl

theorem forceHunting_frame (s : State) : forceHunting s = { s with
    sync := { s.sync with state := .hunting, resync := true }, out := s.out ++ [.state .hunting] } := rfl

theorem countSuccess_frame (P : Params) (s : State) : countSuccess P s = { s with
    diag := { s.diag with succTally := satInc P.tallyW s.diag.succTally } } := rfl

theorem countFailure_frame (P : Params) (s : State) : countFailure P s = { s with
    diag := { s.diag with failTally := satInc P.tallyW s.diag.failTally } } := rfl

theorem satInc_le (w v : Nat) : satInc w v < 2 ^ w := by
  have : 0 < 2 ^ w := Nat.pow_pos (by decide)
  unfold satInc
  omega

theorem forgetRec_frame (P : Params) (s : State) : forgetRec P s = { s with
    sync := { s.sync with recd := freeWindow P s.cfg.T s.freeCount }, freeCount := s.freeCount + 1 } := rfl

theorem freeWindow_length (P : Params) (T count : Nat) : (freeWindow P T count).length = P.confirmN := by
  simp [freeWindow]

theorem freeWindow_fits (P : Params) (T count : Nat) : ∀ c ∈ freeWindow P T count, c.toNat < 2 ^ T := by
  intro c hc
  simp only [freeWindow, List.mem_map] at hc
  obtain ⟨i, -, rfl⟩ := hc
  have h := Nat.mod_lt (Config.freeRec count i).toNat (Nat.pow_pos (n := T) (show 0 < 2 by decide))
  have h' := Nat.mod_le ((Config.freeRec count i).toNat % 2 ^ T) (2 ^ 32)
  rw [BitVec.toNat_ofNat]
  omega

/-! ## Filter bank -/

theorem filtCfg_frame (P : Params) (f : SectionName) (kind : SectionKind) (fr : Rat) (sr : Nat) (q : Resonance)
    (s : State) : filtCfg P f kind fr sr q s = { s with filt := (filtCfg P f kind fr sr q s).filt } := rfl

theorem filtRst_frame (P : Params) (f : SectionName) (s : State) :
    filtRst P f s = { s with filt := (filtRst P f s).filt } := rfl

theorem filtRstAll_frame (P : Params) (s : State) : filtRstAll P s = { s with filt :=
    ⟨.cleared P.zero s.filt.mark.coef, .cleared P.zero s.filt.space.coef, .cleared P.zero s.filt.lp.coef⟩ } := rfl

theorem filtRun_frame (P : Params) (f : SectionName) (x : Number) (s : State) :
    (filtRun P f x s).1 = { s with filt := (filtRun P f x s).1.filt } := rfl

/-- FILT.RUN changes no coefficient. -/
theorem filtRun_coef (P : Params) (f g : SectionName) (x : Number) (s : State) :
    ((filtRun P f x s).1.filt.get g).coef = (s.filt.get g).coef := by
  cases f <;> cases g <;> rfl

/-! ## Bit extractor -/

theorem bitxLevel_frame (P : Params) (x : Sample) (s : State) : bitxLevel P x s = { s with
    filt := (bitxLevel P x s).filt
    bx := { s.bx with
      avg := (bitxLevel P x s).bx.avg
      signalPresent := (bitxLevel P x s).bx.signalPresent
      rawMark := (bitxLevel P x s).bx.rawMark } } := rfl

theorem bitxAcc_frame (s : State) : bitxAcc s = { s with bx := { s.bx with
    acc := s.bx.acc + (if s.bx.rawMark then 1 else -1) } } := rfl

/-- The condition under which BITX.ZC counts a transition (R137). -/
theorem bitxZc_cases (P : Params) (s : State) :
    let counted := s.bx.rawMark != s.bx.oldRaw && decide (2 * min s.cfg.N (s.bx.run + 1) > s.cfg.N)
    bitxZc P s = { s with bx := { s.bx with
      hist := if counted then s.bx.hist.set (transitionBin P s.cfg.N s.bx.untilEvent)
          (s.bx.hist.getD (transitionBin P s.cfg.N s.bx.untilEvent) 0 + 1) else s.bx.hist
      run := if s.bx.rawMark != s.bx.oldRaw then 0 else min s.cfg.N (s.bx.run + 1)
      oldRaw := s.bx.rawMark } } := by
  intro counted
  cases h : counted with
  | true =>
    simp only [counted] at h
    simp only [bitxZc, h, if_true]
    rfl
  | false =>
    simp only [counted] at h
    simp only [bitxZc, h, Bool.false_eq_true, if_false]
    rfl

theorem bitxZc_frame (P : Params) (s : State) : bitxZc P s = { s with bx := { s.bx with
    hist := (bitxZc P s).bx.hist, run := (bitxZc P s).bx.run, oldRaw := s.bx.rawMark } } := by
  rw [bitxZc_cases]

theorem bitxZc_hist_length (P : Params) (s : State) : (bitxZc P s).bx.hist.length = s.bx.hist.length := by
  rw [bitxZc_cases]
  show (if _ then _ else _ : List Nat).length = _
  split
  · exact List.length_set
  · rfl

theorem bitxZc_run_le (P : Params) (s : State) : (bitxZc P s).bx.run ≤ s.cfg.N := by
  rw [bitxZc_cases]
  show (if _ then _ else _ : Nat) ≤ _
  split
  · exact Nat.zero_le _
  · exact Nat.min_le_left _ _

/-- EVALUATE: the histogram is cleared, and with a positive peak the correction and the timing error are set and the
event is emitted (R140, R141). -/
theorem evaluate_cases (P : Params) (s : State) :
    let pk := peakFrom s.bx.hist 0 0 0
    let off2 := rawOffset2 P s.cfg.N pk.2
    evaluate P s = if pk.1 > 0 then { s with
        bx := { s.bx with hist := s.bx.hist.map (fun _ => 0), corrPending := correction P off2 }
        diag := { s.diag with timingError := off2 }
        out := s.out ++ [.timingError off2] }
      else { s with bx := { s.bx with hist := s.bx.hist.map (fun _ => 0) } } := rfl

theorem evaluate_frame (P : Params) (s : State) : evaluate P s = { s with
    bx := { s.bx with hist := s.bx.hist.map (fun _ => 0), corrPending := (evaluate P s).bx.corrPending }
    diag := { s.diag with timingError := (evaluate P s).diag.timingError }
    out := (evaluate P s).out } := by
  rw [evaluate_cases]
  split <;> rfl

theorem bitxCorr_frame (P : Params) (s : State) : bitxCorr P s = { s with
    bx := { s.bx with
      hist := (bitxCorr P s).bx.hist
      zcCount := (bitxCorr P s).bx.zcCount
      corrPending := (bitxCorr P s).bx.corrPending }
    diag := { s.diag with timingError := (bitxCorr P s).diag.timingError }
    out := (bitxCorr P s).out } := by
  unfold bitxCorr
  split
  · split
    · show (evaluate P s).setBx _ = _
      rw [evaluate_frame]; rfl
    · rfl
  · rfl

theorem bitxDump_frame (s : State) : bitxDump s = { s with bx := { s.bx with
    symBit := (bitxDump s).bx.symBit, acc := (bitxDump s).bx.acc, untilEvent := (bitxDump s).bx.untilEvent
    corrPending := (bitxDump s).bx.corrPending, pulseEdge := decide (s.bx.untilEvent = 0) } } := by
  unfold bitxDump
  split
  · next h => simp only [h]; rfl
  · next h => simp only [h]; rfl

theorem endOfStep_frame (s : State) : endOfStep s = { s with bx := { s.bx with
    untilEvent := s.bx.untilEvent - 1, phase := (s.bx.phase + 1) % s.cfg.N } } := rfl

/-! ## Character decoders -/

theorem fecRst_frame (s : State) : fecRst s = { s with fec := ⟨false, 0, 0, 0, false⟩ } := rfl

theorem ita2Rst_frame (s : State) : ita2Rst s = { s with ita2 := ⟨false, false, 0⟩ } := rfl

theorem fecAlpha_frame (P : Params) (d : BitVec 7) (s : State) : (fecAlpha P d s).1 = { s with
    fec := (fecAlpha P d s).1.fec, diag := (fecAlpha P d s).1.diag } := by
  unfold fecAlpha
  split <;> rfl

theorem fecChar_frame (P : Params) (d : BitVec 7) (s : State) : (fecChar P d s).1 = { s with
    fec := (fecChar P d s).1.fec, diag := (fecChar P d s).1.diag } := by
  unfold fecChar
  extract_lets alpha
  cases alpha with
  | true =>
    show (fecAlpha P d s).1.setFec _ = _
    rw [fecAlpha_frame P d s]
    rfl
  | false => rfl

theorem fecChar_ok (P : Params) (d : BitVec 7) (s : State) : (fecChar P d s).2.2 = fecCheck d := rfl

theorem ita2Char_frame (P : Params) (d : BitVec 5) (s : State) : (ita2Char P d s).1 = { s with
    ita2 := (ita2Char P d s).1.ita2 } := by
  simp only [ita2Char]
  split
  · rfl
  · split
    · rfl
    · split <;> rfl

theorem decRst_frame (s : State) : decRst s = { s with ita2 := (decRst s).ita2, fec := (decRst s).fec } := by
  unfold decRst
  split <;> rfl

theorem decChar_frame (P : Params) (code : RawCode) (s : State) : (decChar P code s).1 = { s with
    ita2 := (decChar P code s).1.ita2, fec := (decChar P code s).1.fec, diag := (decChar P code s).1.diag } := by
  unfold decChar
  split
  · rw [fecChar_frame P (groupCode code) s]
  · split
    · show (ita2Char P _ (countSuccess P s)).1 = { s with
        ita2 := (ita2Char P _ (countSuccess P s)).1.ita2
        fec := (ita2Char P _ (countSuccess P s)).1.fec
        diag := (ita2Char P _ (countSuccess P s)).1.diag }
      rw [ita2Char_frame]
      rfl
    · rfl
  · split <;> rfl

/-- What DEC.CHAR says of the group is what DEC.CHECK says (R197, R198). -/
theorem decChar_ok (P : Params) (code : RawCode) (s : State) : (decChar P code s).2.2 = decCheck s code := by
  unfold decChar decCheck
  split
  · rfl
  · cases h : frmCheck s.cfg.desc code <;> rfl
  · cases h : frmCheck s.cfg.desc code <;> rfl

/-- DEC.CHECK reads the configuration alone. -/
theorem decCheck_congr {s t : State} (code : RawCode) (h : s.cfg = t.cfg) : decCheck s code = decCheck t code := by
  simp only [decCheck, h]

/-! ## Frame synchronizer -/

theorem syncClear_frame (s : State) : syncClear s = { s with
    sync := { s.sync with code := 0, bitCount := 0, fill := 0, validCount := 0, errCount := 0, waitSpace := false }
    ita2 := (decRst s).ita2, fec := (decRst s).fec } := by
  unfold syncClear
  rw [decRst_frame]
  cases h : s.cfg.enc <;> simp [decRst, h, State.setSync, fecRst, ita2Rst, ascRst, State.setFec, State.setIta2]

/-- SYNC_CLEAR with both decoder states put to their reset value (R51, R164). -/
theorem resetDecoders_frame (s : State) : resetDecoders (syncClear s) = { s with
    sync := { s.sync with code := 0, bitCount := 0, fill := 0, validCount := 0, errCount := 0, waitSpace := false }
    ita2 := ⟨false, false, 0⟩, fec := ⟨false, 0, 0, 0, false⟩ } := by
  rw [syncClear_frame]
  rfl

theorem enterNoSignal_frame (P : Params) (s : State) : enterNoSignal P s = { s with
    sync := ⟨.noSignal, true, 0, 0, 0, 0, freeWindow P s.cfg.T s.freeCount, 0, false⟩
    ita2 := ⟨false, false, 0⟩
    fec := ⟨false, 0, 0, 0, false⟩
    filt := (filtRstAll P s).filt
    out := s.out ++ [.state .noSignal]
    freeCount := s.freeCount + 1 } := by
  unfold enterNoSignal
  rw [resetDecoders_frame, filtRstAll_frame, forgetRec_frame, filtRstAll_frame]
  rfl

theorem syncSql_frame (P : Params) (present : Bool) (s : State) : syncSql P present s = { s with
    sync := (syncSql P present s).sync, ita2 := (syncSql P present s).ita2, fec := (syncSql P present s).fec
    filt := (syncSql P present s).filt, out := (syncSql P present s).out
    freeCount := (syncSql P present s).freeCount } := by
  unfold syncSql
  split
  · split <;> rfl
  · split
    · rfl
    · rw [enterNoSignal_frame]

theorem consumeResync_frame (s : State) : consumeResync s = { s with
    sync := (consumeResync s).sync, ita2 := (consumeResync s).ita2, fec := (consumeResync s).fec
    out := (consumeResync s).out } := by
  simp only [consumeResync, syncClear_frame]
  split
  · split <;> rfl
  · rfl

theorem huntBit_frame (bit : Bool) (s : State) : huntBit bit s = { s with
    sync := (huntBit bit s).sync, out := (huntBit bit s).out } := by
  simp only [huntBit]
  split <;> rfl

theorem flushOne_frame (P : Params) (s : State) (code : RawCode) : flushOne P s code = { s with
    ita2 := (decChar P code s).1.ita2, fec := (decChar P code s).1.fec, diag := (decChar P code s).1.diag
    out := s.out ++ (decChar P code s).2.1.toList.map .char } := by
  show emitChar (decChar P code s).2.1 (decChar P code s).1 = _
  rw [emitChar_frame, decChar_frame]

theorem flushAll_frame (P : Params) (codes : List RawCode) (s : State) : codes.foldl (flushOne P) s = { s with
    ita2 := (codes.foldl (flushOne P) s).ita2, fec := (codes.foldl (flushOne P) s).fec
    diag := (codes.foldl (flushOne P) s).diag, out := (codes.foldl (flushOne P) s).out } := by
  induction codes generalizing s with
  | nil => rfl
  | cons c rest ih =>
    rw [List.foldl_cons, ih, flushOne_frame]

/-- The events a FLUSH adds are characters, at most one for each withheld frame. -/
theorem flushAll_out (P : Params) (codes : List RawCode) (s : State) : ∃ cs : List Scalar,
    cs.length ≤ codes.length ∧ (codes.foldl (flushOne P) s).out = s.out ++ cs.map .char := by
  induction codes generalizing s with
  | nil => exact ⟨[], Nat.le_refl _, (List.append_nil _).symm⟩
  | cons c rest ih =>
    obtain ⟨cs, hl, hc⟩ := ih (flushOne P s c)
    refine ⟨(decChar P c s).2.1.toList ++ cs, ?_, ?_⟩
    · cases (decChar P c s).2.1 <;> simp <;> omega
    · rw [List.foldl_cons, hc, flushOne_frame]
      simp

theorem flush_frame (P : Params) (s : State) : flush P s = { s with
    sync := { s.sync with validCount := 0 }
    ita2 := (flush P s).ita2, fec := (flush P s).fec, diag := (flush P s).diag, out := (flush P s).out } := by
  simp only [flush]
  rw [flushAll_frame]
  rfl

theorem confirmBit_frame (P : Params) (bit : Bool) (s : State) : confirmBit P bit s = { s with
    sync := (confirmBit P bit s).sync, ita2 := (confirmBit P bit s).ita2, fec := (confirmBit P bit s).fec
    diag := (confirmBit P bit s).diag, out := (confirmBit P bit s).out } := by
  simp only [confirmBit, confirmGroup]
  split
  · split
    · split
      · rw [flush_frame]; rfl
      · rfl
    · rfl
  · rfl

theorem steadyErr_frame (P : Params) (ok : Bool) (s : State) : steadyErr P ok s = { s with
    sync := (steadyErr P ok s).sync, out := (steadyErr P ok s).out } := by
  simp only [steadyErr]
  split
  · split <;> rfl
  · split <;> rfl

theorem steadyGroup_frame (P : Params) (s : State) : steadyGroup P s = { s with
    sync := (steadyGroup P s).sync, ita2 := (decChar P s.sync.code s).1.ita2
    fec := (decChar P s.sync.code s).1.fec, diag := (decChar P s.sync.code s).1.diag
    out := (steadyGroup P s).out } := by
  simp only [steadyGroup]
  split
  · rw [steadyErr_frame, emitChar_frame, decChar_frame]; rfl
  · rw [steadyErr_frame, emitChar_frame, decChar_frame]; rfl

theorem steadyBit_frame (P : Params) (bit : Bool) (s : State) : steadyBit P bit s = { s with
    sync := (steadyBit P bit s).sync, ita2 := (steadyBit P bit s).ita2, fec := (steadyBit P bit s).fec
    diag := (steadyBit P bit s).diag, out := (steadyBit P bit s).out } := by
  simp only [steadyBit]
  split
  · rfl
  · split
    · rw [steadyGroup_frame]; rfl
    · rfl

theorem syncBit_frame (P : Params) (bit : Bool) (s : State) : syncBit P bit s = { s with
    sync := (syncBit P bit s).sync, ita2 := (syncBit P bit s).ita2, fec := (syncBit P bit s).fec
    diag := (syncBit P bit s).diag, out := (syncBit P bit s).out } := by
  simp only [syncBit]
  split
  · rw [consumeResync_frame]
  · rw [huntBit_frame, consumeResync_frame]
  · rw [confirmBit_frame, consumeResync_frame]
  · rw [steadyBit_frame, consumeResync_frame]

theorem syncStep_frame (P : Params) (s : State) : syncStep P s = { s with
    sync := (syncStep P s).sync, ita2 := (syncStep P s).ita2, fec := (syncStep P s).fec
    filt := (syncStep P s).filt, diag := (syncStep P s).diag, out := (syncStep P s).out
    freeCount := (syncStep P s).freeCount } := by
  simp only [syncStep]
  split
  · rw [syncBit_frame, syncSql_frame]
  · rw [syncSql_frame]

theorem receiveBit_frame (P : Params) (s : State) (bit : Bool) : receiveBit P s bit = { s with
    sync := (receiveBit P s bit).sync, ita2 := (receiveBit P s bit).ita2, fec := (receiveBit P s bit).fec
    filt := (receiveBit P s bit).filt, diag := (receiveBit P s bit).diag, out := (receiveBit P s bit).out
    freeCount := (receiveBit P s bit).freeCount } := by
  simp only [receiveBit]
  rw [syncBit_frame, syncSql_frame]

theorem receiveBits_frame (P : Params) (bits : List Bool) (s : State) : bits.foldl (receiveBit P) s = { s with
    sync := (bits.foldl (receiveBit P) s).sync, ita2 := (bits.foldl (receiveBit P) s).ita2
    fec := (bits.foldl (receiveBit P) s).fec, filt := (bits.foldl (receiveBit P) s).filt
    diag := (bits.foldl (receiveBit P) s).diag, out := (bits.foldl (receiveBit P) s).out
    freeCount := (bits.foldl (receiveBit P) s).freeCount } := by
  induction bits generalizing s with
  | nil => rfl
  | cons b rest ih =>
    rw [List.foldl_cons, ih, receiveBit_frame]

theorem receiveCode_frame (P : Params) (n : Nat) (code : RawCode) (s : State) : receiveCode P n code s = { s with
    sync := (receiveCode P n code s).sync, ita2 := (receiveCode P n code s).ita2
    fec := (receiveCode P n code s).fec, filt := (receiveCode P n code s).filt
    diag := (receiveCode P n code s).diag, out := (receiveCode P n code s).out
    freeCount := (receiveCode P n code s).freeCount } := by
  unfold receiveCode
  split
  · rw [receiveBits_frame]; rfl
  · rfl

/-! ## Facade -/

theorem resetAll_frame (P : Params) (s : State) : resetAll P s = { s with
    filt := (filtRstAll P s).filt
    bx := bxInitial P s.cfg s.bx
    sync := ⟨.noSignal, true, 0, 0, 0, 0, freeWindow P s.cfg.T s.freeCount, 0, false⟩
    ita2 := ⟨false, false, 0⟩
    fec := ⟨false, 0, 0, 0, false⟩
    diag := ⟨0, 0, 0⟩
    freeCount := s.freeCount + 1 } := by
  simp only [resetAll]
  rw [resetDecoders_frame, filtRstAll_frame, forgetRec_frame]
  rfl

theorem sampleStep_frame (P : Params) (x : Sample) (s : State) : sampleStep P x s = { s with
    filt := (sampleStep P x s).filt, bx := (sampleStep P x s).bx, sync := (sampleStep P x s).sync
    ita2 := (sampleStep P x s).ita2, fec := (sampleStep P x s).fec, diag := (sampleStep P x s).diag
    out := (sampleStep P x s).out, freeCount := (sampleStep P x s).freeCount } := by
  simp only [sampleStep]
  rw [endOfStep_frame, syncStep_frame, bitxDump_frame, bitxCorr_frame, bitxZc_frame]
  rfl

end Sys2Proof.Machine
end

