-- ==== Sys2Proof/Laws/Exec.lean ====
section
/-! SUPPORT. What `exec` is of a word that the decoder reads: one equation for all frame rows, one for all ITA2 code
words and one for all 4-of-7 code words; and that every instruction leads to a next state. -/

namespace Sys2Proof.Machine

/-- Every instruction leads to a next state in every state: no fault and no refusal (R294). -/
theorem exec_total (i : Instr) (s : State) : ∃ t, exec i s = .next t := by
  cases i <;> exact ⟨_, rfl⟩

theorem exec_frameRow_async (d : DataBits) (st : StopBits) (efr : Bool) (data : DataCode) (s : State) :
    exec (frameRow (.async d st efr) data) s
      = .next (receiveFrame (.async d st efr) (data.toNat % 2 ^ d.count) s) := by
  have h8 : data.toNat % 2 ^ DataBits.eight.count = data.toNat := Nat.mod_eq_of_lt data.isLt
  cases d with
  | five => cases st <;> cases efr <;> rfl
  | seven => cases st <;> cases efr <;> rfl
  | eight => rw [h8]; cases st <;> cases efr <;> rfl

theorem exec_frameRow_group (data : DataCode) (s : State) :
    exec (frameRow .fourOfSeven data) s = .next (receiveFrame .fourOfSeven (data.toNat % 2 ^ 7) s) := rfl

theorem exec_decodeIta2 (d : BitVec 5) (s : State) : exec (decodeIta2 d) s = .next (ita2Word d s) := by
  obtain ⟨⟨n, hn⟩⟩ := d
  change n < 32 at hn
  interval_cases n <;> rfl

theorem exec_decodeCcir476 (d : BitVec 7) (s : State) : exec (decodeCcir476 d) s = .next (fecWord d s) := by
  obtain ⟨⟨n, hn⟩⟩ := d
  change n < 128 at hn
  interval_cases n <;> rfl

/-! ## Code words: the decoder at work and no other (R44, R304) -/

theorem decoding_iff (enc : Encoding) (s : State) : decoding enc s = true ↔
    s.ctl.constructed = true ∧ s.ctl.running = true ∧ s.cfg.enc = enc ∧ s.sync.state ≠ .noSignal := by
  simp [decoding, and_assoc]

theorem codeWord_decoding {enc : Encoding} {s : State} (call : State → State) (h : decoding enc s = true) :
    codeWord enc call s = call s := if_pos h

theorem codeWord_idle {enc : Encoding} {s : State} (call : State → State) (h : ¬decoding enc s = true) :
    codeWord enc call s = s := if_neg h

/-- A stopped block takes no code word: "nothing runs, all state is kept" (R304). -/
theorem codeWord_stopped (enc : Encoding) (call : State → State) (s : State) (h : s.ctl.running = false) :
    codeWord enc call s = s := codeWord_idle call (by simp [decoding, h])

end Sys2Proof.Machine
end

