-- ==== Sys2Proof/Laws/PerInstr.lean ====
section
/-! SUPPORT. Per-instruction facts: the word of every instruction fits the width of its space. -/

namespace Sys2Proof.Laws.EncodingWidth

/-- The encoder writes no bit beyond the width of the instruction's space. -/
def Statement (i : Instr) : Prop := ∀ (sp : Space) (w : RawCode), encode i = some (sp, w) → w.toNat < 2 ^ sp.width

theorem statement_of {i : Instr} {sp : Space} {w : RawCode} (h : encode i = some (sp, w))
    (hw : w.toNat < 2 ^ sp.width) : Statement i := by
  intro sp' w' h'
  rw [h] at h'
  cases h'
  exact hw

theorem command_fits (op : Nat) (imm : Sample) (h : op < 16) :
    (encodeCommand op imm).toNat < 2 ^ Space.command.width := by
  have := imm.isLt
  simp only [encodeCommand, Space.width, BitVec.toNat_ofNat]
  omega

theorem async_fits {d stop data : Nat} (hd : data < 2 ^ d) :
    (encodeAsync d stop data).toNat < 2 ^ (1 + d + stop) := by
  have hs : 0 < 2 ^ stop := Nat.pow_pos (by decide)
  have hp : 2 ^ (1 + d + stop) = 2 ^ stop * (2 * 2 ^ d) := by ring
  have hb : (2 ^ stop - 1) * 2 ^ (1 + d) + data * 2 < 2 ^ (1 + d + stop) := by
    have h1 : (2 ^ stop - 1) * 2 ^ (1 + d) = 2 ^ stop * (2 * 2 ^ d) - 2 * 2 ^ d := by
      rw [Nat.sub_mul, Nat.one_mul, Nat.pow_add, Nat.pow_one]
    have h2 : 2 * 2 ^ d ≤ 2 ^ stop * (2 * 2 ^ d) := Nat.le_mul_of_pos_left _ hs
    omega
  simp only [encodeAsync, BitVec.toNat_ofNat]
  exact lt_of_le_of_lt (Nat.mod_le _ _) hb

theorem async2_fits_five : ∀ data : BitVec 5, (encodeAsync2 5 data.toNat).toNat < 2 ^ 15 := by decide +kernel

theorem async2_fits_seven : ∀ data : BitVec 7, (encodeAsync2 7 data.toNat).toNat < 2 ^ 19 := by decide +kernel

theorem async2_fits_eight : ∀ data : BitVec 8, (encodeAsync2 8 data.toNat).toNat < 2 ^ 21 := by decide +kernel

theorem group_fits (data : BitVec 7) : (encodeFrame .fourOfSeven data.toNat).toNat < 2 ^ 7 := by
  have := data.isLt
  simp only [encodeFrame, BitVec.toNat_ofNat]
  omega

theorem nop (imm : Sample) : Statement (.nop imm) := statement_of rfl (command_fits _ imm (by decide))

theorem construct (imm : Sample) : Statement (.construct imm) := statement_of rfl (command_fits _ imm (by decide))

theorem start (imm : Sample) : Statement (.start imm) := statement_of rfl (command_fits _ imm (by decide))

theorem stop (imm : Sample) : Statement (.stop imm) := statement_of rfl (command_fits _ imm (by decide))

theorem reset (imm : Sample) : Statement (.reset imm) := statement_of rfl (command_fits _ imm (by decide))

theorem sample (imm : Sample) : Statement (.sample imm) := statement_of rfl (command_fits _ imm (by decide))

theorem reservedOp6 (imm : Sample) : Statement (.reservedOp6 imm) := statement_of rfl (command_fits _ imm (by decide))

theorem reservedOp7 (imm : Sample) : Statement (.reservedOp7 imm) := statement_of rfl (command_fits _ imm (by decide))

theorem reservedOp8 (imm : Sample) : Statement (.reservedOp8 imm) := statement_of rfl (command_fits _ imm (by decide))

theorem reservedOp9 (imm : Sample) : Statement (.reservedOp9 imm) := statement_of rfl (command_fits _ imm (by decide))

theorem reservedOpA (imm : Sample) : Statement (.reservedOpA imm) := statement_of rfl (command_fits _ imm (by decide))

theorem reservedOpB (imm : Sample) : Statement (.reservedOpB imm) := statement_of rfl (command_fits _ imm (by decide))

theorem reservedOpC (imm : Sample) : Statement (.reservedOpC imm) := statement_of rfl (command_fits _ imm (by decide))

theorem reservedOpD (imm : Sample) : Statement (.reservedOpD imm) := statement_of rfl (command_fits _ imm (by decide))

theorem reservedOpE (imm : Sample) : Statement (.reservedOpE imm) := statement_of rfl (command_fits _ imm (by decide))

theorem reservedOpF (imm : Sample) : Statement (.reservedOpF imm) := statement_of rfl (command_fits _ imm (by decide))

theorem frame5N1 (data : BitVec 5) : Statement (.frame5N1 data) := statement_of rfl (async_fits data.isLt)

theorem frame5N1Efr (data : BitVec 5) : Statement (.frame5N1Efr data) := statement_of rfl (async_fits data.isLt)

theorem frame5N2 (data : BitVec 5) : Statement (.frame5N2 data) := statement_of rfl (async_fits data.isLt)

theorem frame5N2Efr (data : BitVec 5) : Statement (.frame5N2Efr data) := statement_of rfl (async_fits data.isLt)

theorem frame5N15 (data : BitVec 5) : Statement (.frame5N15 data) := statement_of rfl (async2_fits_five data)

theorem frame5N15Efr (data : BitVec 5) : Statement (.frame5N15Efr data) := statement_of rfl (async2_fits_five data)

theorem frame7N1 (data : BitVec 7) : Statement (.frame7N1 data) := statement_of rfl (async_fits data.isLt)

theorem frame7N1Efr (data : BitVec 7) : Statement (.frame7N1Efr data) := statement_of rfl (async_fits data.isLt)

theorem frame7N2 (data : BitVec 7) : Statement (.frame7N2 data) := statement_of rfl (async_fits data.isLt)

theorem frame7N2Efr (data : BitVec 7) : Statement (.frame7N2Efr data) := statement_of rfl (async_fits data.isLt)

theorem frame7N15 (data : BitVec 7) : Statement (.frame7N15 data) := statement_of rfl (async2_fits_seven data)

theorem frame7N15Efr (data : BitVec 7) : Statement (.frame7N15Efr data) := statement_of rfl (async2_fits_seven data)

theorem frame8N1 (data : BitVec 8) : Statement (.frame8N1 data) := statement_of rfl (async_fits data.isLt)

theorem frame8N1Efr (data : BitVec 8) : Statement (.frame8N1Efr data) := statement_of rfl (async_fits data.isLt)

theorem frame8N2 (data : BitVec 8) : Statement (.frame8N2 data) := statement_of rfl (async_fits data.isLt)

theorem frame8N2Efr (data : BitVec 8) : Statement (.frame8N2Efr data) := statement_of rfl (async_fits data.isLt)

theorem frame8N15 (data : BitVec 8) : Statement (.frame8N15 data) := statement_of rfl (async2_fits_eight data)

theorem frame8N15Efr (data : BitVec 8) : Statement (.frame8N15Efr data) := statement_of rfl (async2_fits_eight data)

theorem frame4of7 (data : BitVec 7) : Statement (.frame4of7 data) := statement_of rfl (group_fits data)

theorem ita2Code00 : Statement (.ita2Code00) := statement_of rfl (by decide)

theorem ita2Code01 : Statement (.ita2Code01) := statement_of rfl (by decide)

theorem ita2Code02 : Statement (.ita2Code02) := statement_of rfl (by decide)

theorem ita2Code03 : Statement (.ita2Code03) := statement_of rfl (by decide)

theorem ita2Code04 : Statement (.ita2Code04) := statement_of rfl (by decide)

theorem ita2Code05 : Statement (.ita2Code05) := statement_of rfl (by decide)

theorem ita2Code06 : Statement (.ita2Code06) := statement_of rfl (by decide)

theorem ita2Code07 : Statement (.ita2Code07) := statement_of rfl (by decide)

theorem ita2Code08 : Statement (.ita2Code08) := statement_of rfl (by decide)

theorem ita2Code09 : Statement (.ita2Code09) := statement_of rfl (by decide)

theorem ita2Code0A : Statement (.ita2Code0A) := statement_of rfl (by decide)

theorem ita2Code0B : Statement (.ita2Code0B) := statement_of rfl (by decide)

theorem ita2Code0C : Statement (.ita2Code0C) := statement_of rfl (by decide)

theorem ita2Code0D : Statement (.ita2Code0D) := statement_of rfl (by decide)

theorem ita2Code0E : Statement (.ita2Code0E) := statement_of rfl (by decide)

theorem ita2Code0F : Statement (.ita2Code0F) := statement_of rfl (by decide)

theorem ita2Code10 : Statement (.ita2Code10) := statement_of rfl (by decide)

theorem ita2Code11 : Statement (.ita2Code11) := statement_of rfl (by decide)

theorem ita2Code12 : Statement (.ita2Code12) := statement_of rfl (by decide)

theorem ita2Code13 : Statement (.ita2Code13) := statement_of rfl (by decide)

theorem ita2Code14 : Statement (.ita2Code14) := statement_of rfl (by decide)

theorem ita2Code15 : Statement (.ita2Code15) := statement_of rfl (by decide)

theorem ita2Code16 : Statement (.ita2Code16) := statement_of rfl (by decide)

theorem ita2Code17 : Statement (.ita2Code17) := statement_of rfl (by decide)

theorem ita2Code18 : Statement (.ita2Code18) := statement_of rfl (by decide)

theorem ita2Code19 : Statement (.ita2Code19) := statement_of rfl (by decide)

theorem ita2Code1A : Statement (.ita2Code1A) := statement_of rfl (by decide)

theorem ita2Code1B : Statement (.ita2Code1B) := statement_of rfl (by decide)

theorem ita2Code1C : Statement (.ita2Code1C) := statement_of rfl (by decide)

theorem ita2Code1D : Statement (.ita2Code1D) := statement_of rfl (by decide)

theorem ita2Code1E : Statement (.ita2Code1E) := statement_of rfl (by decide)

theorem ita2Code1F : Statement (.ita2Code1F) := statement_of rfl (by decide)

theorem fecCode00 : Statement (.fecCode00) := statement_of rfl (by decide)

theorem fecCode01 : Statement (.fecCode01) := statement_of rfl (by decide)

theorem fecCode02 : Statement (.fecCode02) := statement_of rfl (by decide)

theorem fecCode03 : Statement (.fecCode03) := statement_of rfl (by decide)

theorem fecCode04 : Statement (.fecCode04) := statement_of rfl (by decide)

theorem fecCode05 : Statement (.fecCode05) := statement_of rfl (by decide)

theorem fecCode06 : Statement (.fecCode06) := statement_of rfl (by decide)

theorem fecCode07 : Statement (.fecCode07) := statement_of rfl (by decide)

theorem fecCode08 : Statement (.fecCode08) := statement_of rfl (by decide)

theorem fecCode09 : Statement (.fecCode09) := statement_of rfl (by decide)

theorem fecCode0A : Statement (.fecCode0A) := statement_of rfl (by decide)

theorem fecCode0B : Statement (.fecCode0B) := statement_of rfl (by decide)

theorem fecCode0C : Statement (.fecCode0C) := statement_of rfl (by decide)

theorem fecCode0D : Statement (.fecCode0D) := statement_of rfl (by decide)

theorem fecCode0E : Statement (.fecCode0E) := statement_of rfl (by decide)

theorem fecCode0F : Statement (.fecCode0F) := statement_of rfl (by decide)

theorem fecCode10 : Statement (.fecCode10) := statement_of rfl (by decide)

theorem fecCode11 : Statement (.fecCode11) := statement_of rfl (by decide)

theorem fecCode12 : Statement (.fecCode12) := statement_of rfl (by decide)

theorem fecCode13 : Statement (.fecCode13) := statement_of rfl (by decide)

theorem fecCode14 : Statement (.fecCode14) := statement_of rfl (by decide)

theorem fecCode15 : Statement (.fecCode15) := statement_of rfl (by decide)

theorem fecCode16 : Statement (.fecCode16) := statement_of rfl (by decide)

theorem fecCode17 : Statement (.fecCode17) := statement_of rfl (by decide)

theorem fecCode18 : Statement (.fecCode18) := statement_of rfl (by decide)

theorem fecCode19 : Statement (.fecCode19) := statement_of rfl (by decide)

theorem fecCode1A : Statement (.fecCode1A) := statement_of rfl (by decide)

theorem fecCode1B : Statement (.fecCode1B) := statement_of rfl (by decide)

theorem fecCode1C : Statement (.fecCode1C) := statement_of rfl (by decide)

theorem fecCode1D : Statement (.fecCode1D) := statement_of rfl (by decide)

theorem fecCode1E : Statement (.fecCode1E) := statement_of rfl (by decide)

theorem fecCode1F : Statement (.fecCode1F) := statement_of rfl (by decide)

theorem fecCode20 : Statement (.fecCode20) := statement_of rfl (by decide)

theorem fecCode21 : Statement (.fecCode21) := statement_of rfl (by decide)

theorem fecCode22 : Statement (.fecCode22) := statement_of rfl (by decide)

theorem fecCode23 : Statement (.fecCode23) := statement_of rfl (by decide)

theorem fecCode24 : Statement (.fecCode24) := statement_of rfl (by decide)

theorem fecCode25 : Statement (.fecCode25) := statement_of rfl (by decide)

theorem fecCode26 : Statement (.fecCode26) := statement_of rfl (by decide)

theorem fecCode27 : Statement (.fecCode27) := statement_of rfl (by decide)

theorem fecCode28 : Statement (.fecCode28) := statement_of rfl (by decide)

theorem fecCode29 : Statement (.fecCode29) := statement_of rfl (by decide)

theorem fecCode2A : Statement (.fecCode2A) := statement_of rfl (by decide)

theorem fecCode2B : Statement (.fecCode2B) := statement_of rfl (by decide)

theorem fecCode2C : Statement (.fecCode2C) := statement_of rfl (by decide)

theorem fecCode2D : Statement (.fecCode2D) := statement_of rfl (by decide)

theorem fecCode2E : Statement (.fecCode2E) := statement_of rfl (by decide)

theorem fecCode2F : Statement (.fecCode2F) := statement_of rfl (by decide)

theorem fecCode30 : Statement (.fecCode30) := statement_of rfl (by decide)

theorem fecCode31 : Statement (.fecCode31) := statement_of rfl (by decide)

theorem fecCode32 : Statement (.fecCode32) := statement_of rfl (by decide)

theorem fecCode33 : Statement (.fecCode33) := statement_of rfl (by decide)

theorem fecCode34 : Statement (.fecCode34) := statement_of rfl (by decide)

theorem fecCode35 : Statement (.fecCode35) := statement_of rfl (by decide)

theorem fecCode36 : Statement (.fecCode36) := statement_of rfl (by decide)

theorem fecCode37 : Statement (.fecCode37) := statement_of rfl (by decide)

theorem fecCode38 : Statement (.fecCode38) := statement_of rfl (by decide)

theorem fecCode39 : Statement (.fecCode39) := statement_of rfl (by decide)

theorem fecCode3A : Statement (.fecCode3A) := statement_of rfl (by decide)

theorem fecCode3B : Statement (.fecCode3B) := statement_of rfl (by decide)

theorem fecCode3C : Statement (.fecCode3C) := statement_of rfl (by decide)

theorem fecCode3D : Statement (.fecCode3D) := statement_of rfl (by decide)

theorem fecCode3E : Statement (.fecCode3E) := statement_of rfl (by decide)

theorem fecCode3F : Statement (.fecCode3F) := statement_of rfl (by decide)

theorem fecCode40 : Statement (.fecCode40) := statement_of rfl (by decide)

theorem fecCode41 : Statement (.fecCode41) := statement_of rfl (by decide)

theorem fecCode42 : Statement (.fecCode42) := statement_of rfl (by decide)

theorem fecCode43 : Statement (.fecCode43) := statement_of rfl (by decide)

theorem fecCode44 : Statement (.fecCode44) := statement_of rfl (by decide)

theorem fecCode45 : Statement (.fecCode45) := statement_of rfl (by decide)

theorem fecCode46 : Statement (.fecCode46) := statement_of rfl (by decide)

theorem fecCode47 : Statement (.fecCode47) := statement_of rfl (by decide)

theorem fecCode48 : Statement (.fecCode48) := statement_of rfl (by decide)

theorem fecCode49 : Statement (.fecCode49) := statement_of rfl (by decide)

theorem fecCode4A : Statement (.fecCode4A) := statement_of rfl (by decide)

theorem fecCode4B : Statement (.fecCode4B) := statement_of rfl (by decide)

theorem fecCode4C : Statement (.fecCode4C) := statement_of rfl (by decide)

theorem fecCode4D : Statement (.fecCode4D) := statement_of rfl (by decide)

theorem fecCode4E : Statement (.fecCode4E) := statement_of rfl (by decide)

theorem fecCode4F : Statement (.fecCode4F) := statement_of rfl (by decide)

theorem fecCode50 : Statement (.fecCode50) := statement_of rfl (by decide)

theorem fecCode51 : Statement (.fecCode51) := statement_of rfl (by decide)

theorem fecCode52 : Statement (.fecCode52) := statement_of rfl (by decide)

theorem fecCode53 : Statement (.fecCode53) := statement_of rfl (by decide)

theorem fecCode54 : Statement (.fecCode54) := statement_of rfl (by decide)

theorem fecCode55 : Statement (.fecCode55) := statement_of rfl (by decide)

theorem fecCode56 : Statement (.fecCode56) := statement_of rfl (by decide)

theorem fecCode57 : Statement (.fecCode57) := statement_of rfl (by decide)

theorem fecCode58 : Statement (.fecCode58) := statement_of rfl (by decide)

theorem fecCode59 : Statement (.fecCode59) := statement_of rfl (by decide)

theorem fecCode5A : Statement (.fecCode5A) := statement_of rfl (by decide)

theorem fecCode5B : Statement (.fecCode5B) := statement_of rfl (by decide)

theorem fecCode5C : Statement (.fecCode5C) := statement_of rfl (by decide)

theorem fecCode5D : Statement (.fecCode5D) := statement_of rfl (by decide)

theorem fecCode5E : Statement (.fecCode5E) := statement_of rfl (by decide)

theorem fecCode5F : Statement (.fecCode5F) := statement_of rfl (by decide)

theorem fecCode60 : Statement (.fecCode60) := statement_of rfl (by decide)

theorem fecCode61 : Statement (.fecCode61) := statement_of rfl (by decide)

theorem fecCode62 : Statement (.fecCode62) := statement_of rfl (by decide)

theorem fecCode63 : Statement (.fecCode63) := statement_of rfl (by decide)

theorem fecCode64 : Statement (.fecCode64) := statement_of rfl (by decide)

theorem fecCode65 : Statement (.fecCode65) := statement_of rfl (by decide)

theorem fecCode66 : Statement (.fecCode66) := statement_of rfl (by decide)

theorem fecCode67 : Statement (.fecCode67) := statement_of rfl (by decide)

theorem fecCode68 : Statement (.fecCode68) := statement_of rfl (by decide)

theorem fecCode69 : Statement (.fecCode69) := statement_of rfl (by decide)

theorem fecCode6A : Statement (.fecCode6A) := statement_of rfl (by decide)

theorem fecCode6B : Statement (.fecCode6B) := statement_of rfl (by decide)

theorem fecCode6C : Statement (.fecCode6C) := statement_of rfl (by decide)

theorem fecCode6D : Statement (.fecCode6D) := statement_of rfl (by decide)

theorem fecCode6E : Statement (.fecCode6E) := statement_of rfl (by decide)

theorem fecCode6F : Statement (.fecCode6F) := statement_of rfl (by decide)

theorem fecCode70 : Statement (.fecCode70) := statement_of rfl (by decide)

theorem fecCode71 : Statement (.fecCode71) := statement_of rfl (by decide)

theorem fecCode72 : Statement (.fecCode72) := statement_of rfl (by decide)

theorem fecCode73 : Statement (.fecCode73) := statement_of rfl (by decide)

theorem fecCode74 : Statement (.fecCode74) := statement_of rfl (by decide)

theorem fecCode75 : Statement (.fecCode75) := statement_of rfl (by decide)

theorem fecCode76 : Statement (.fecCode76) := statement_of rfl (by decide)

theorem fecCode77 : Statement (.fecCode77) := statement_of rfl (by decide)

theorem fecCode78 : Statement (.fecCode78) := statement_of rfl (by decide)

theorem fecCode79 : Statement (.fecCode79) := statement_of rfl (by decide)

theorem fecCode7A : Statement (.fecCode7A) := statement_of rfl (by decide)

theorem fecCode7B : Statement (.fecCode7B) := statement_of rfl (by decide)

theorem fecCode7C : Statement (.fecCode7C) := statement_of rfl (by decide)

theorem fecCode7D : Statement (.fecCode7D) := statement_of rfl (by decide)

theorem fecCode7E : Statement (.fecCode7E) := statement_of rfl (by decide)

theorem fecCode7F : Statement (.fecCode7F) := statement_of rfl (by decide)

theorem asciiCode7 (code : BitVec 7) : Statement (.asciiCode7 code) := statement_of rfl (by
    have := code.isLt
    simp only [BitVec.truncate_eq_setWidth, BitVec.toNat_setWidth, Space.width]
    omega)

theorem asciiCode8 (code : BitVec 8) : Statement (.asciiCode8 code) := statement_of rfl (by
    have := code.isLt
    simp only [BitVec.truncate_eq_setWidth, BitVec.toNat_setWidth, Space.width]
    omega)

theorem filtCfg : ∀ a b c d e, Statement (.filtCfg a b c d e) := fun _ _ _ _ _ _ _ h => nomatch h

theorem filtRst : ∀ a, Statement (.filtRst a) := fun _ _ _ h => nomatch h

theorem filtRun : ∀ a b, Statement (.filtRun a b) := fun _ _ _ _ h => nomatch h

theorem bitxLevel : ∀ a, Statement (.bitxLevel a) := fun _ _ _ h => nomatch h

theorem bitxAcc : Statement (.bitxAcc) := fun _ _ h => nomatch h

theorem bitxZc : Statement (.bitxZc) := fun _ _ h => nomatch h

theorem bitxCorr : Statement (.bitxCorr) := fun _ _ h => nomatch h

theorem bitxDump : Statement (.bitxDump) := fun _ _ h => nomatch h

theorem syncSql : ∀ a, Statement (.syncSql a) := fun _ _ _ h => nomatch h

theorem syncBit : ∀ a, Statement (.syncBit a) := fun _ _ _ h => nomatch h

theorem frmParse : ∀ a, Statement (.frmParse a) := fun _ _ _ h => nomatch h

theorem frmCheck : ∀ a, Statement (.frmCheck a) := fun _ _ _ h => nomatch h

theorem frmCheckDoubled : ∀ a, Statement (.frmCheckDoubled a) := fun _ _ _ h => nomatch h

theorem frmExtract : ∀ a, Statement (.frmExtract a) := fun _ _ _ h => nomatch h

theorem decCheck : ∀ a, Statement (.decCheck a) := fun _ _ _ h => nomatch h

theorem decChar : ∀ a, Statement (.decChar a) := fun _ _ _ h => nomatch h

theorem decRst : Statement (.decRst) := fun _ _ h => nomatch h

theorem fecCheck : ∀ a, Statement (.fecCheck a) := fun _ _ _ h => nomatch h

theorem fecChar : ∀ a, Statement (.fecChar a) := fun _ _ _ h => nomatch h

theorem fecRst : Statement (.fecRst) := fun _ _ h => nomatch h

theorem ita2Check : ∀ a, Statement (.ita2Check a) := fun _ _ _ h => nomatch h

theorem ita2Char : ∀ a, Statement (.ita2Char a) := fun _ _ _ h => nomatch h

theorem ita2Rst : Statement (.ita2Rst) := fun _ _ h => nomatch h

theorem ascCheck : ∀ a, Statement (.ascCheck a) := fun _ _ _ h => nomatch h

theorem ascChar : ∀ a, Statement (.ascChar a) := fun _ _ _ h => nomatch h

theorem ascRst : Statement (.ascRst) := fun _ _ h => nomatch h

theorem getNBits : Statement (.getNBits) := fun _ _ h => nomatch h

theorem getMsb : Statement (.getMsb) := fun _ _ h => nomatch h

theorem sampleStep : ∀ a, Statement (.sampleStep a) := fun _ _ _ h => nomatch h

end Sys2Proof.Laws.EncodingWidth
end

