-- ==== Sys2Proof/Laws/State.lean ====
section
/-! SUPPORT. One lemma per field per update of the state: no proof unfolds a record update. -/

namespace Sys2Proof.Machine

@[simp] theorem State.setPorts_params (s : State) (x : ConfigPorts) : (s.setPorts x).params = s.params := rfl
@[simp] theorem State.setPorts_ports (s : State) (x : ConfigPorts) : (s.setPorts x).ports = x := rfl
@[simp] theorem State.setPorts_cfg (s : State) (x : ConfigPorts) : (s.setPorts x).cfg = s.cfg := rfl
@[simp] theorem State.setPorts_filt (s : State) (x : ConfigPorts) : (s.setPorts x).filt = s.filt := rfl
@[simp] theorem State.setPorts_bx (s : State) (x : ConfigPorts) : (s.setPorts x).bx = s.bx := rfl
@[simp] theorem State.setPorts_sync (s : State) (x : ConfigPorts) : (s.setPorts x).sync = s.sync := rfl
@[simp] theorem State.setPorts_ita2 (s : State) (x : ConfigPorts) : (s.setPorts x).ita2 = s.ita2 := rfl
@[simp] theorem State.setPorts_fec (s : State) (x : ConfigPorts) : (s.setPorts x).fec = s.fec := rfl
@[simp] theorem State.setPorts_diag (s : State) (x : ConfigPorts) : (s.setPorts x).diag = s.diag := rfl
@[simp] theorem State.setPorts_ctl (s : State) (x : ConfigPorts) : (s.setPorts x).ctl = s.ctl := rfl
@[simp] theorem State.setPorts_out (s : State) (x : ConfigPorts) : (s.setPorts x).out = s.out := rfl
@[simp] theorem State.setPorts_inbox (s : State) (x : ConfigPorts) : (s.setPorts x).inbox = s.inbox := rfl
@[simp] theorem State.setPorts_ret (s : State) (x : ConfigPorts) : (s.setPorts x).ret = s.ret := rfl
@[simp] theorem State.setPorts_freeCount (s : State) (x : ConfigPorts) : (s.setPorts x).freeCount = s.freeCount := rfl

@[simp] theorem State.setCfg_params (s : State) (x : Latched) : (s.setCfg x).params = s.params := rfl
@[simp] theorem State.setCfg_ports (s : State) (x : Latched) : (s.setCfg x).ports = s.ports := rfl
@[simp] theorem State.setCfg_cfg (s : State) (x : Latched) : (s.setCfg x).cfg = x := rfl
@[simp] theorem State.setCfg_filt (s : State) (x : Latched) : (s.setCfg x).filt = s.filt := rfl
@[simp] theorem State.setCfg_bx (s : State) (x : Latched) : (s.setCfg x).bx = s.bx := rfl
@[simp] theorem State.setCfg_sync (s : State) (x : Latched) : (s.setCfg x).sync = s.sync := rfl
@[simp] theorem State.setCfg_ita2 (s : State) (x : Latched) : (s.setCfg x).ita2 = s.ita2 := rfl
@[simp] theorem State.setCfg_fec (s : State) (x : Latched) : (s.setCfg x).fec = s.fec := rfl
@[simp] theorem State.setCfg_diag (s : State) (x : Latched) : (s.setCfg x).diag = s.diag := rfl
@[simp] theorem State.setCfg_ctl (s : State) (x : Latched) : (s.setCfg x).ctl = s.ctl := rfl
@[simp] theorem State.setCfg_out (s : State) (x : Latched) : (s.setCfg x).out = s.out := rfl
@[simp] theorem State.setCfg_inbox (s : State) (x : Latched) : (s.setCfg x).inbox = s.inbox := rfl
@[simp] theorem State.setCfg_ret (s : State) (x : Latched) : (s.setCfg x).ret = s.ret := rfl
@[simp] theorem State.setCfg_freeCount (s : State) (x : Latched) : (s.setCfg x).freeCount = s.freeCount := rfl

@[simp] theorem State.setFilt_params (s : State) (x : FilterBank) : (s.setFilt x).params = s.params := rfl
@[simp] theorem State.setFilt_ports (s : State) (x : FilterBank) : (s.setFilt x).ports = s.ports := rfl
@[simp] theorem State.setFilt_cfg (s : State) (x : FilterBank) : (s.setFilt x).cfg = s.cfg := rfl
@[simp] theorem State.setFilt_filt (s : State) (x : FilterBank) : (s.setFilt x).filt = x := rfl
@[simp] theorem State.setFilt_bx (s : State) (x : FilterBank) : (s.setFilt x).bx = s.bx := rfl
@[simp] theorem State.setFilt_sync (s : State) (x : FilterBank) : (s.setFilt x).sync = s.sync := rfl
@[simp] theorem State.setFilt_ita2 (s : State) (x : FilterBank) : (s.setFilt x).ita2 = s.ita2 := rfl
@[simp] theorem State.setFilt_fec (s : State) (x : FilterBank) : (s.setFilt x).fec = s.fec := rfl
@[simp] theorem State.setFilt_diag (s : State) (x : FilterBank) : (s.setFilt x).diag = s.diag := rfl
@[simp] theorem State.setFilt_ctl (s : State) (x : FilterBank) : (s.setFilt x).ctl = s.ctl := rfl
@[simp] theorem State.setFilt_out (s : State) (x : FilterBank) : (s.setFilt x).out = s.out := rfl
@[simp] theorem State.setFilt_inbox (s : State) (x : FilterBank) : (s.setFilt x).inbox = s.inbox := rfl
@[simp] theorem State.setFilt_ret (s : State) (x : FilterBank) : (s.setFilt x).ret = s.ret := rfl
@[simp] theorem State.setFilt_freeCount (s : State) (x : FilterBank) : (s.setFilt x).freeCount = s.freeCount := rfl

@[simp] theorem State.setBx_params (s : State) (x : BitExtractor) : (s.setBx x).params = s.params := rfl
@[simp] theorem State.setBx_ports (s : State) (x : BitExtractor) : (s.setBx x).ports = s.ports := rfl
@[simp] theorem State.setBx_cfg (s : State) (x : BitExtractor) : (s.setBx x).cfg = s.cfg := rfl
@[simp] theorem State.setBx_filt (s : State) (x : BitExtractor) : (s.setBx x).filt = s.filt := rfl
@[simp] theorem State.setBx_bx (s : State) (x : BitExtractor) : (s.setBx x).bx = x := rfl
@[simp] theorem State.setBx_sync (s : State) (x : BitExtractor) : (s.setBx x).sync = s.sync := rfl
@[simp] theorem State.setBx_ita2 (s : State) (x : BitExtractor) : (s.setBx x).ita2 = s.ita2 := rfl
@[simp] theorem State.setBx_fec (s : State) (x : BitExtractor) : (s.setBx x).fec = s.fec := rfl
@[simp] theorem State.setBx_diag (s : State) (x : BitExtractor) : (s.setBx x).diag = s.diag := rfl
@[simp] theorem State.setBx_ctl (s : State) (x : BitExtractor) : (s.setBx x).ctl = s.ctl := rfl
@[simp] theorem State.setBx_out (s : State) (x : BitExtractor) : (s.setBx x).out = s.out := rfl
@[simp] theorem State.setBx_inbox (s : State) (x : BitExtractor) : (s.setBx x).inbox = s.inbox := rfl
@[simp] theorem State.setBx_ret (s : State) (x : BitExtractor) : (s.setBx x).ret = s.ret := rfl
@[simp] theorem State.setBx_freeCount (s : State) (x : BitExtractor) : (s.setBx x).freeCount = s.freeCount := rfl

@[simp] theorem State.setSync_params (s : State) (x : Synchronizer) : (s.setSync x).params = s.params := rfl
@[simp] theorem State.setSync_ports (s : State) (x : Synchronizer) : (s.setSync x).ports = s.ports := rfl
@[simp] theorem State.setSync_cfg (s : State) (x : Synchronizer) : (s.setSync x).cfg = s.cfg := rfl
@[simp] theorem State.setSync_filt (s : State) (x : Synchronizer) : (s.setSync x).filt = s.filt := rfl
@[simp] theorem State.setSync_bx (s : State) (x : Synchronizer) : (s.setSync x).bx = s.bx := rfl
@[simp] theorem State.setSync_sync (s : State) (x : Synchronizer) : (s.setSync x).sync = x := rfl
@[simp] theorem State.setSync_ita2 (s : State) (x : Synchronizer) : (s.setSync x).ita2 = s.ita2 := rfl
@[simp] theorem State.setSync_fec (s : State) (x : Synchronizer) : (s.setSync x).fec = s.fec := rfl
@[simp] theorem State.setSync_diag (s : State) (x : Synchronizer) : (s.setSync x).diag = s.diag := rfl
@[simp] theorem State.setSync_ctl (s : State) (x : Synchronizer) : (s.setSync x).ctl = s.ctl := rfl
@[simp] theorem State.setSync_out (s : State) (x : Synchronizer) : (s.setSync x).out = s.out := rfl
@[simp] theorem State.setSync_inbox (s : State) (x : Synchronizer) : (s.setSync x).inbox = s.inbox := rfl
@[simp] theorem State.setSync_ret (s : State) (x : Synchronizer) : (s.setSync x).ret = s.ret := rfl
@[simp] theorem State.setSync_freeCount (s : State) (x : Synchronizer) : (s.setSync x).freeCount = s.freeCount := rfl

@[simp] theorem State.setIta2_params (s : State) (x : Ita2State) : (s.setIta2 x).params = s.params := rfl
@[simp] theorem State.setIta2_ports (s : State) (x : Ita2State) : (s.setIta2 x).ports = s.ports := rfl
@[simp] theorem State.setIta2_cfg (s : State) (x : Ita2State) : (s.setIta2 x).cfg = s.cfg := rfl
@[simp] theorem State.setIta2_filt (s : State) (x : Ita2State) : (s.setIta2 x).filt = s.filt := rfl
@[simp] theorem State.setIta2_bx (s : State) (x : Ita2State) : (s.setIta2 x).bx = s.bx := rfl
@[simp] theorem State.setIta2_sync (s : State) (x : Ita2State) : (s.setIta2 x).sync = s.sync := rfl
@[simp] theorem State.setIta2_ita2 (s : State) (x : Ita2State) : (s.setIta2 x).ita2 = x := rfl
@[simp] theorem State.setIta2_fec (s : State) (x : Ita2State) : (s.setIta2 x).fec = s.fec := rfl
@[simp] theorem State.setIta2_diag (s : State) (x : Ita2State) : (s.setIta2 x).diag = s.diag := rfl
@[simp] theorem State.setIta2_ctl (s : State) (x : Ita2State) : (s.setIta2 x).ctl = s.ctl := rfl
@[simp] theorem State.setIta2_out (s : State) (x : Ita2State) : (s.setIta2 x).out = s.out := rfl
@[simp] theorem State.setIta2_inbox (s : State) (x : Ita2State) : (s.setIta2 x).inbox = s.inbox := rfl
@[simp] theorem State.setIta2_ret (s : State) (x : Ita2State) : (s.setIta2 x).ret = s.ret := rfl
@[simp] theorem State.setIta2_freeCount (s : State) (x : Ita2State) : (s.setIta2 x).freeCount = s.freeCount := rfl

@[simp] theorem State.setFec_params (s : State) (x : FecState) : (s.setFec x).params = s.params := rfl
@[simp] theorem State.setFec_ports (s : State) (x : FecState) : (s.setFec x).ports = s.ports := rfl
@[simp] theorem State.setFec_cfg (s : State) (x : FecState) : (s.setFec x).cfg = s.cfg := rfl
@[simp] theorem State.setFec_filt (s : State) (x : FecState) : (s.setFec x).filt = s.filt := rfl
@[simp] theorem State.setFec_bx (s : State) (x : FecState) : (s.setFec x).bx = s.bx := rfl
@[simp] theorem State.setFec_sync (s : State) (x : FecState) : (s.setFec x).sync = s.sync := rfl
@[simp] theorem State.setFec_ita2 (s : State) (x : FecState) : (s.setFec x).ita2 = s.ita2 := rfl
@[simp] theorem State.setFec_fec (s : State) (x : FecState) : (s.setFec x).fec = x := rfl
@[simp] theorem State.setFec_diag (s : State) (x : FecState) : (s.setFec x).diag = s.diag := rfl
@[simp] theorem State.setFec_ctl (s : State) (x : FecState) : (s.setFec x).ctl = s.ctl := rfl
@[simp] theorem State.setFec_out (s : State) (x : FecState) : (s.setFec x).out = s.out := rfl
@[simp] theorem State.setFec_inbox (s : State) (x : FecState) : (s.setFec x).inbox = s.inbox := rfl
@[simp] theorem State.setFec_ret (s : State) (x : FecState) : (s.setFec x).ret = s.ret := rfl
@[simp] theorem State.setFec_freeCount (s : State) (x : FecState) : (s.setFec x).freeCount = s.freeCount := rfl

@[simp] theorem State.setDiag_params (s : State) (x : Diagnostics) : (s.setDiag x).params = s.params := rfl
@[simp] theorem State.setDiag_ports (s : State) (x : Diagnostics) : (s.setDiag x).ports = s.ports := rfl
@[simp] theorem State.setDiag_cfg (s : State) (x : Diagnostics) : (s.setDiag x).cfg = s.cfg := rfl
@[simp] theorem State.setDiag_filt (s : State) (x : Diagnostics) : (s.setDiag x).filt = s.filt := rfl
@[simp] theorem State.setDiag_bx (s : State) (x : Diagnostics) : (s.setDiag x).bx = s.bx := rfl
@[simp] theorem State.setDiag_sync (s : State) (x : Diagnostics) : (s.setDiag x).sync = s.sync := rfl
@[simp] theorem State.setDiag_ita2 (s : State) (x : Diagnostics) : (s.setDiag x).ita2 = s.ita2 := rfl
@[simp] theorem State.setDiag_fec (s : State) (x : Diagnostics) : (s.setDiag x).fec = s.fec := rfl
@[simp] theorem State.setDiag_diag (s : State) (x : Diagnostics) : (s.setDiag x).diag = x := rfl
@[simp] theorem State.setDiag_ctl (s : State) (x : Diagnostics) : (s.setDiag x).ctl = s.ctl := rfl
@[simp] theorem State.setDiag_out (s : State) (x : Diagnostics) : (s.setDiag x).out = s.out := rfl
@[simp] theorem State.setDiag_inbox (s : State) (x : Diagnostics) : (s.setDiag x).inbox = s.inbox := rfl
@[simp] theorem State.setDiag_ret (s : State) (x : Diagnostics) : (s.setDiag x).ret = s.ret := rfl
@[simp] theorem State.setDiag_freeCount (s : State) (x : Diagnostics) : (s.setDiag x).freeCount = s.freeCount := rfl

@[simp] theorem State.setCtl_params (s : State) (x : Control) : (s.setCtl x).params = s.params := rfl
@[simp] theorem State.setCtl_ports (s : State) (x : Control) : (s.setCtl x).ports = s.ports := rfl
@[simp] theorem State.setCtl_cfg (s : State) (x : Control) : (s.setCtl x).cfg = s.cfg := rfl
@[simp] theorem State.setCtl_filt (s : State) (x : Control) : (s.setCtl x).filt = s.filt := rfl
@[simp] theorem State.setCtl_bx (s : State) (x : Control) : (s.setCtl x).bx = s.bx := rfl
@[simp] theorem State.setCtl_sync (s : State) (x : Control) : (s.setCtl x).sync = s.sync := rfl
@[simp] theorem State.setCtl_ita2 (s : State) (x : Control) : (s.setCtl x).ita2 = s.ita2 := rfl
@[simp] theorem State.setCtl_fec (s : State) (x : Control) : (s.setCtl x).fec = s.fec := rfl
@[simp] theorem State.setCtl_diag (s : State) (x : Control) : (s.setCtl x).diag = s.diag := rfl
@[simp] theorem State.setCtl_ctl (s : State) (x : Control) : (s.setCtl x).ctl = x := rfl
@[simp] theorem State.setCtl_out (s : State) (x : Control) : (s.setCtl x).out = s.out := rfl
@[simp] theorem State.setCtl_inbox (s : State) (x : Control) : (s.setCtl x).inbox = s.inbox := rfl
@[simp] theorem State.setCtl_ret (s : State) (x : Control) : (s.setCtl x).ret = s.ret := rfl
@[simp] theorem State.setCtl_freeCount (s : State) (x : Control) : (s.setCtl x).freeCount = s.freeCount := rfl

@[simp] theorem State.setOut_params (s : State) (x : List Event) : (s.setOut x).params = s.params := rfl
@[simp] theorem State.setOut_ports (s : State) (x : List Event) : (s.setOut x).ports = s.ports := rfl
@[simp] theorem State.setOut_cfg (s : State) (x : List Event) : (s.setOut x).cfg = s.cfg := rfl
@[simp] theorem State.setOut_filt (s : State) (x : List Event) : (s.setOut x).filt = s.filt := rfl
@[simp] theorem State.setOut_bx (s : State) (x : List Event) : (s.setOut x).bx = s.bx := rfl
@[simp] theorem State.setOut_sync (s : State) (x : List Event) : (s.setOut x).sync = s.sync := rfl
@[simp] theorem State.setOut_ita2 (s : State) (x : List Event) : (s.setOut x).ita2 = s.ita2 := rfl
@[simp] theorem State.setOut_fec (s : State) (x : List Event) : (s.setOut x).fec = s.fec := rfl
@[simp] theorem State.setOut_diag (s : State) (x : List Event) : (s.setOut x).diag = s.diag := rfl
@[simp] theorem State.setOut_ctl (s : State) (x : List Event) : (s.setOut x).ctl = s.ctl := rfl
@[simp] theorem State.setOut_out (s : State) (x : List Event) : (s.setOut x).out = x := rfl
@[simp] theorem State.setOut_inbox (s : State) (x : List Event) : (s.setOut x).inbox = s.inbox := rfl
@[simp] theorem State.setOut_ret (s : State) (x : List Event) : (s.setOut x).ret = s.ret := rfl
@[simp] theorem State.setOut_freeCount (s : State) (x : List Event) : (s.setOut x).freeCount = s.freeCount := rfl

@[simp] theorem State.setInbox_params (s : State) (x : List Input) : (s.setInbox x).params = s.params := rfl
@[simp] theorem State.setInbox_ports (s : State) (x : List Input) : (s.setInbox x).ports = s.ports := rfl
@[simp] theorem State.setInbox_cfg (s : State) (x : List Input) : (s.setInbox x).cfg = s.cfg := rfl
@[simp] theorem State.setInbox_filt (s : State) (x : List Input) : (s.setInbox x).filt = s.filt := rfl
@[simp] theorem State.setInbox_bx (s : State) (x : List Input) : (s.setInbox x).bx = s.bx := rfl
@[simp] theorem State.setInbox_sync (s : State) (x : List Input) : (s.setInbox x).sync = s.sync := rfl
@[simp] theorem State.setInbox_ita2 (s : State) (x : List Input) : (s.setInbox x).ita2 = s.ita2 := rfl
@[simp] theorem State.setInbox_fec (s : State) (x : List Input) : (s.setInbox x).fec = s.fec := rfl
@[simp] theorem State.setInbox_diag (s : State) (x : List Input) : (s.setInbox x).diag = s.diag := rfl
@[simp] theorem State.setInbox_ctl (s : State) (x : List Input) : (s.setInbox x).ctl = s.ctl := rfl
@[simp] theorem State.setInbox_out (s : State) (x : List Input) : (s.setInbox x).out = s.out := rfl
@[simp] theorem State.setInbox_inbox (s : State) (x : List Input) : (s.setInbox x).inbox = x := rfl
@[simp] theorem State.setInbox_ret (s : State) (x : List Input) : (s.setInbox x).ret = s.ret := rfl
@[simp] theorem State.setInbox_freeCount (s : State) (x : List Input) : (s.setInbox x).freeCount = s.freeCount := rfl

@[simp] theorem State.setRet_params (s : State) (x : OpResult) : (s.setRet x).params = s.params := rfl
@[simp] theorem State.setRet_ports (s : State) (x : OpResult) : (s.setRet x).ports = s.ports := rfl
@[simp] theorem State.setRet_cfg (s : State) (x : OpResult) : (s.setRet x).cfg = s.cfg := rfl
@[simp] theorem State.setRet_filt (s : State) (x : OpResult) : (s.setRet x).filt = s.filt := rfl
@[simp] theorem State.setRet_bx (s : State) (x : OpResult) : (s.setRet x).bx = s.bx := rfl
@[simp] theorem State.setRet_sync (s : State) (x : OpResult) : (s.setRet x).sync = s.sync := rfl
@[simp] theorem State.setRet_ita2 (s : State) (x : OpResult) : (s.setRet x).ita2 = s.ita2 := rfl
@[simp] theorem State.setRet_fec (s : State) (x : OpResult) : (s.setRet x).fec = s.fec := rfl
@[simp] theorem State.setRet_diag (s : State) (x : OpResult) : (s.setRet x).diag = s.diag := rfl
@[simp] theorem State.setRet_ctl (s : State) (x : OpResult) : (s.setRet x).ctl = s.ctl := rfl
@[simp] theorem State.setRet_out (s : State) (x : OpResult) : (s.setRet x).out = s.out := rfl
@[simp] theorem State.setRet_inbox (s : State) (x : OpResult) : (s.setRet x).inbox = s.inbox := rfl
@[simp] theorem State.setRet_ret (s : State) (x : OpResult) : (s.setRet x).ret = x := rfl
@[simp] theorem State.setRet_freeCount (s : State) (x : OpResult) : (s.setRet x).freeCount = s.freeCount := rfl

@[simp] theorem State.setFreeCount_params (s : State) (x : Nat) : (s.setFreeCount x).params = s.params := rfl
@[simp] theorem State.setFreeCount_ports (s : State) (x : Nat) : (s.setFreeCount x).ports = s.ports := rfl
@[simp] theorem State.setFreeCount_cfg (s : State) (x : Nat) : (s.setFreeCount x).cfg = s.cfg := rfl
@[simp] theorem State.setFreeCount_filt (s : State) (x : Nat) : (s.setFreeCount x).filt = s.filt := rfl
@[simp] theorem State.setFreeCount_bx (s : State) (x : Nat) : (s.setFreeCount x).bx = s.bx := rfl
@[simp] theorem State.setFreeCount_sync (s : State) (x : Nat) : (s.setFreeCount x).sync = s.sync := rfl
@[simp] theorem State.setFreeCount_ita2 (s : State) (x : Nat) : (s.setFreeCount x).ita2 = s.ita2 := rfl
@[simp] theorem State.setFreeCount_fec (s : State) (x : Nat) : (s.setFreeCount x).fec = s.fec := rfl
@[simp] theorem State.setFreeCount_diag (s : State) (x : Nat) : (s.setFreeCount x).diag = s.diag := rfl
@[simp] theorem State.setFreeCount_ctl (s : State) (x : Nat) : (s.setFreeCount x).ctl = s.ctl := rfl
@[simp] theorem State.setFreeCount_out (s : State) (x : Nat) : (s.setFreeCount x).out = s.out := rfl
@[simp] theorem State.setFreeCount_inbox (s : State) (x : Nat) : (s.setFreeCount x).inbox = s.inbox := rfl
@[simp] theorem State.setFreeCount_ret (s : State) (x : Nat) : (s.setFreeCount x).ret = s.ret := rfl
@[simp] theorem State.setFreeCount_freeCount (s : State) (x : Nat) : (s.setFreeCount x).freeCount = x := rfl

@[simp] theorem State.setPorts_setPorts (s : State) (x y : ConfigPorts) : (s.setPorts x).setPorts y = s.setPorts y := rfl
@[simp] theorem State.setPorts_self (s : State) : s.setPorts s.ports = s := rfl
@[simp] theorem State.setCfg_setCfg (s : State) (x y : Latched) : (s.setCfg x).setCfg y = s.setCfg y := rfl
@[simp] theorem State.setCfg_self (s : State) : s.setCfg s.cfg = s := rfl
@[simp] theorem State.setFilt_setFilt (s : State) (x y : FilterBank) : (s.setFilt x).setFilt y = s.setFilt y := rfl
@[simp] theorem State.setFilt_self (s : State) : s.setFilt s.filt = s := rfl
@[simp] theorem State.setBx_setBx (s : State) (x y : BitExtractor) : (s.setBx x).setBx y = s.setBx y := rfl
@[simp] theorem State.setBx_self (s : State) : s.setBx s.bx = s := rfl
@[simp] theorem State.setSync_setSync (s : State) (x y : Synchronizer) : (s.setSync x).setSync y = s.setSync y := rfl
@[simp] theorem State.setSync_self (s : State) : s.setSync s.sync = s := rfl
@[simp] theorem State.setIta2_setIta2 (s : State) (x y : Ita2State) : (s.setIta2 x).setIta2 y = s.setIta2 y := rfl
@[simp] theorem State.setIta2_self (s : State) : s.setIta2 s.ita2 = s := rfl
@[simp] theorem State.setFec_setFec (s : State) (x y : FecState) : (s.setFec x).setFec y = s.setFec y := rfl
@[simp] theorem State.setFec_self (s : State) : s.setFec s.fec = s := rfl
@[simp] theorem State.setDiag_setDiag (s : State) (x y : Diagnostics) : (s.setDiag x).setDiag y = s.setDiag y := rfl
@[simp] theorem State.setDiag_self (s : State) : s.setDiag s.diag = s := rfl
@[simp] theorem State.setCtl_setCtl (s : State) (x y : Control) : (s.setCtl x).setCtl y = s.setCtl y := rfl
@[simp] theorem State.setCtl_self (s : State) : s.setCtl s.ctl = s := rfl
@[simp] theorem State.setOut_setOut (s : State) (x y : List Event) : (s.setOut x).setOut y = s.setOut y := rfl
@[simp] theorem State.setOut_self (s : State) : s.setOut s.out = s := rfl
@[simp] theorem State.setInbox_setInbox (s : State) (x y : List Input) : (s.setInbox x).setInbox y = s.setInbox y := rfl
@[simp] theorem State.setInbox_self (s : State) : s.setInbox s.inbox = s := rfl
@[simp] theorem State.setRet_setRet (s : State) (x y : OpResult) : (s.setRet x).setRet y = s.setRet y := rfl
@[simp] theorem State.setRet_self (s : State) : s.setRet s.ret = s := rfl
@[simp] theorem State.setFreeCount_setFreeCount (s : State) (x y : Nat) : (s.setFreeCount x).setFreeCount y = s.setFreeCount y := rfl
@[simp] theorem State.setFreeCount_self (s : State) : s.setFreeCount s.freeCount = s := rfl

@[simp] theorem FilterBank.get_set_same (b : FilterBank) (f : SectionName) (x : Section) : (b.set f x).get f = x := by
  cases f <;> rfl

@[simp] theorem FilterBank.get_set_of_ne (b : FilterBank) {f g : SectionName} (x : Section) (h : g ≠ f) :
    (b.set f x).get g = b.get g := by
  cases f <;> cases g <;> first | rfl | exact absurd rfl h

end Sys2Proof.Machine
end

