-- ==== Sys2Proof/Tests/Slice0.lean ====
section
/-! SUPPORT. The smoke tests of WellFormed, the decoding of every constructor, vectors of the spec, and a witness for
the hypotheses of every statement. -/

namespace Sys2Proof.Tests

set_option Elab.async false

open Sys2Proof Sys2Proof.Machine

/-! ## WellFormed: one ill-formed term for each check -/

theorem test_wf_filtCfg_ok : (Instr.filtCfg .lp .lowpass 140 12000 (.sqrtOf (1 / 2))).wellFormed = true := by
  decide +kernel

theorem test_wf_filtCfg_sampleRate : (Instr.filtCfg .lp .lowpass 140 999 (.rational 3)).wellFormed = false := by
  decide +kernel

theorem test_wf_filtCfg_zeroFreq : (Instr.filtCfg .mark .bandpass 0 12000 (.rational 3)).wellFormed = false := by
  decide +kernel

theorem test_wf_filtCfg_nyquist : (Instr.filtCfg .mark .bandpass 6000 12000 (.rational 3)).wellFormed = false := by
  decide +kernel

theorem test_wf_filtCfg_q : (Instr.filtCfg .mark .bandpass 593 12000 (.rational 0)).wellFormed = false := by
  decide +kernel

theorem test_wf_rawCodes : [Instr.frmCheck, .frmCheckDoubled, .frmExtract, .decCheck, .decChar].all
    (fun i => (i 0x1FFFFF).wellFormed && !(i 0x200000).wellFormed) = true := by decide

/-! ## Decoding, from words written out by R81, R82, R89 to R92 -/

/-- R82: `op` in bits 19:16, `imm16` in bits 15:0. -/
theorem test_decode_commands :
    [0x00001, 0x1ABCD, 0x20000, 0x3FFFF, 0x48000, 0x5FFFF, 0x60000, 0x71234, 0x80000, 0x90000, 0xA0001, 0xB0000, 0xC0000,
      0xD0000, 0xE0000, 0xF1234].map (decode .command)
    = [.nop 1, .construct 0xABCD, .start 0, .stop 0xFFFF, .reset 0x8000, .sample 0xFFFF, .reservedOp6 0,
      .reservedOp7 0x1234, .reservedOp8 0, .reservedOp9 0, .reservedOpA 1, .reservedOpB 0, .reservedOpC 0,
      .reservedOpD 0, .reservedOpE 0, .reservedOpF 0x1234].map .ok := by rfl

/-- R89: the frame patterns, the highest bit first: stop, data (last bit first), start. -/
theorem test_decode_frames_five :
    decode (.frame (.async .five .one false)) 0b1010110 = .ok (.frame5N1 0b01011)
    ∧ decode (.frame (.async .five .one true)) 0b1010110 = .ok (.frame5N1Efr 0b01011)
    ∧ decode (.frame (.async .five .two false)) 0b11010110 = .ok (.frame5N2 0b01011)
    ∧ decode (.frame (.async .five .two true)) 0b11010110 = .ok (.frame5N2Efr 0b01011)
    ∧ decode (.frame (.async .five .oneAndHalf false)) 0b111001100111100 = .ok (.frame5N15 0b01011)
    ∧ decode (.frame (.async .five .oneAndHalf true)) 0b111001100111100 = .ok (.frame5N15Efr 0b01011) := by
  refine ⟨rfl, rfl, rfl, rfl, rfl, rfl⟩

theorem test_decode_frames_seven :
    decode (.frame (.async .seven .one false)) 0b111000010 = .ok (.frame7N1 0b1100001)
    ∧ decode (.frame (.async .seven .one true)) 0b111000010 = .ok (.frame7N1Efr 0b1100001)
    ∧ decode (.frame (.async .seven .two false)) 0b1111000010 = .ok (.frame7N2 0b1100001)
    ∧ decode (.frame (.async .seven .two true)) 0b1111000010 = .ok (.frame7N2Efr 0b1100001)
    ∧ decode (.frame (.async .seven .oneAndHalf false)) 0b1111111000000001100 = .ok (.frame7N15 0b1100001)
    ∧ decode (.frame (.async .seven .oneAndHalf true)) 0b1111111000000001100 = .ok (.frame7N15Efr 0b1100001) := by
  refine ⟨rfl, rfl, rfl, rfl, rfl, rfl⟩

theorem test_decode_frames_eight :
    decode (.frame (.async .eight .one false)) 0b1101000110 = .ok (.frame8N1 0b10100011)
    ∧ decode (.frame (.async .eight .one true)) 0b1101000110 = .ok (.frame8N1Efr 0b10100011)
    ∧ decode (.frame (.async .eight .two false)) 0b11101000110 = .ok (.frame8N2 0b10100011)
    ∧ decode (.frame (.async .eight .two true)) 0b11101000110 = .ok (.frame8N2Efr 0b10100011)
    ∧ decode (.frame (.async .eight .oneAndHalf false)) 0b111110011000000111100 = .ok (.frame8N15 0b10100011)
    ∧ decode (.frame (.async .eight .oneAndHalf true)) 0b111110011000000111100 = .ok (.frame8N15Efr 0b10100011) := by
  refine ⟨rfl, rfl, rfl, rfl, rfl, rfl⟩

/-- R88: the whole 7-bit group is the data code. -/
theorem test_decode_frame_group : decode (.frame .fourOfSeven) 0b1011010 = .ok (.frame4of7 0x5A) := by decide

/-- R93: a start bit of 1, a stop bit of 0 and a data pair `10` match no pattern (V60). -/
theorem test_decode_illegal_frames :
    decode (.frame (.async .five .one false)) 0x55 = .error .illegalFrame
    ∧ decode (.frame (.async .five .one false)) 0x14 = .error .illegalFrame
    ∧ decode (.frame (.async .five .oneAndHalf false)) 0x7320 = .error .illegalFrame
    ∧ decode (.frame (.async .five .oneAndHalf false)) 0x8000 = .error .wordTooWide := by decide +kernel

/-- R92. -/
theorem test_decode_ascii : decode .ascii7 0b1000001 = .ok (.asciiCode7 0x41)
    ∧ decode .ascii8 0b11000001 = .ok (.asciiCode8 0xC1) ∧ decode .ascii7 0x80 = .error .wordTooWide := by decide

/-- R90: the code is the word. -/
theorem test_decode_ita2 :
    [0x00, 0x01, 0x02, 0x03, 0x04, 0x05, 0x06, 0x07, 0x08, 0x09, 0x0A, 0x0B, 0x0C, 0x0D, 0x0E, 0x0F,
      0x10, 0x11, 0x12, 0x13, 0x14, 0x15, 0x16, 0x17, 0x18, 0x19, 0x1A, 0x1B, 0x1C, 0x1D, 0x1E, 0x1F].map (decode .ita2)
    = [.ita2Code00, .ita2Code01, .ita2Code02, .ita2Code03, .ita2Code04, .ita2Code05, .ita2Code06, .ita2Code07,
      .ita2Code08, .ita2Code09, .ita2Code0A, .ita2Code0B, .ita2Code0C, .ita2Code0D, .ita2Code0E, .ita2Code0F,
      .ita2Code10, .ita2Code11, .ita2Code12, .ita2Code13, .ita2Code14, .ita2Code15, .ita2Code16, .ita2Code17,
      .ita2Code18, .ita2Code19, .ita2Code1A, .ita2Code1B, .ita2Code1C, .ita2Code1D, .ita2Code1E, .ita2Code1F].map .ok := by rfl

/-- R91: the code is the word. -/
theorem test_decode_fec_00 :
    [0x00, 0x01, 0x02, 0x03, 0x04, 0x05, 0x06, 0x07, 0x08, 0x09, 0x0A, 0x0B, 0x0C, 0x0D, 0x0E, 0x0F,
      0x10, 0x11, 0x12, 0x13, 0x14, 0x15, 0x16, 0x17, 0x18, 0x19, 0x1A, 0x1B, 0x1C, 0x1D, 0x1E, 0x1F].map (decode .ccir476)
    = [.fecCode00, .fecCode01, .fecCode02, .fecCode03, .fecCode04, .fecCode05, .fecCode06, .fecCode07,
      .fecCode08, .fecCode09, .fecCode0A, .fecCode0B, .fecCode0C, .fecCode0D, .fecCode0E, .fecCode0F,
      .fecCode10, .fecCode11, .fecCode12, .fecCode13, .fecCode14, .fecCode15, .fecCode16, .fecCode17,
      .fecCode18, .fecCode19, .fecCode1A, .fecCode1B, .fecCode1C, .fecCode1D, .fecCode1E, .fecCode1F].map .ok := by rfl

/-- R91: the code is the word. -/
theorem test_decode_fec_20 :
    [0x20, 0x21, 0x22, 0x23, 0x24, 0x25, 0x26, 0x27, 0x28, 0x29, 0x2A, 0x2B, 0x2C, 0x2D, 0x2E, 0x2F,
      0x30, 0x31, 0x32, 0x33, 0x34, 0x35, 0x36, 0x37, 0x38, 0x39, 0x3A, 0x3B, 0x3C, 0x3D, 0x3E, 0x3F].map (decode .ccir476)
    = [.fecCode20, .fecCode21, .fecCode22, .fecCode23, .fecCode24, .fecCode25, .fecCode26, .fecCode27,
      .fecCode28, .fecCode29, .fecCode2A, .fecCode2B, .fecCode2C, .fecCode2D, .fecCode2E, .fecCode2F,
      .fecCode30, .fecCode31, .fecCode32, .fecCode33, .fecCode34, .fecCode35, .fecCode36, .fecCode37,
      .fecCode38, .fecCode39, .fecCode3A, .fecCode3B, .fecCode3C, .fecCode3D, .fecCode3E, .fecCode3F].map .ok := by rfl

/-- R91: the code is the word. -/
theorem test_decode_fec_40 :
    [0x40, 0x41, 0x42, 0x43, 0x44, 0x45, 0x46, 0x47, 0x48, 0x49, 0x4A, 0x4B, 0x4C, 0x4D, 0x4E, 0x4F,
      0x50, 0x51, 0x52, 0x53, 0x54, 0x55, 0x56, 0x57, 0x58, 0x59, 0x5A, 0x5B, 0x5C, 0x5D, 0x5E, 0x5F].map (decode .ccir476)
    = [.fecCode40, .fecCode41, .fecCode42, .fecCode43, .fecCode44, .fecCode45, .fecCode46, .fecCode47,
      .fecCode48, .fecCode49, .fecCode4A, .fecCode4B, .fecCode4C, .fecCode4D, .fecCode4E, .fecCode4F,
      .fecCode50, .fecCode51, .fecCode52, .fecCode53, .fecCode54, .fecCode55, .fecCode56, .fecCode57,
      .fecCode58, .fecCode59, .fecCode5A, .fecCode5B, .fecCode5C, .fecCode5D, .fecCode5E, .fecCode5F].map .ok := by rfl

/-- R91: the code is the word. -/
theorem test_decode_fec_60 :
    [0x60, 0x61, 0x62, 0x63, 0x64, 0x65, 0x66, 0x67, 0x68, 0x69, 0x6A, 0x6B, 0x6C, 0x6D, 0x6E, 0x6F,
      0x70, 0x71, 0x72, 0x73, 0x74, 0x75, 0x76, 0x77, 0x78, 0x79, 0x7A, 0x7B, 0x7C, 0x7D, 0x7E, 0x7F].map (decode .ccir476)
    = [.fecCode60, .fecCode61, .fecCode62, .fecCode63, .fecCode64, .fecCode65, .fecCode66, .fecCode67,
      .fecCode68, .fecCode69, .fecCode6A, .fecCode6B, .fecCode6C, .fecCode6D, .fecCode6E, .fecCode6F,
      .fecCode70, .fecCode71, .fecCode72, .fecCode73, .fecCode74, .fecCode75, .fecCode76, .fecCode77,
      .fecCode78, .fecCode79, .fecCode7A, .fecCode7B, .fecCode7C, .fecCode7D, .fecCode7E, .fecCode7F].map .ok := by rfl

/-! ## Number format and filter bank -/

/-- V12 (R116): coefficients 1/2, 1/4, 0, -1/2, 1/4, inputs 8, 0, 4, 0: outputs 4, 4, 3, 3/2. -/
theorem test_filtRun_exact :
    let num := Params.default.num.ops.const
    let c : Coeffs := ⟨num (1 / 2), num (1 / 4), num 0, num (-1 / 2), num (1 / 4)⟩
    let s0 := { State.reset with filt := { State.reset.filt with mark := .cleared Params.default.zero c } }
    let run (s : State) (x : Rat) := filtRun Params.default .mark (num x) s
    let r0 := run s0 8
    let r1 := run r0.1 0
    let r2 := run r1.1 4
    let r3 := run r2.1 0
    [r0.2, r1.2, r2.2, r3.2] = [num 4, num 4, num 3, num (3 / 2)] := by decide +kernel

/-- V11 (R118): the first output of the mark section of R114 for input 1000 is 48.45416085629716. -/
theorem test_filtRun_binary64 :
    let c : Coeffs := ⟨⟨0x3FA8CEFBD877413E⟩, ⟨0⟩, ⟨0xBFA8CEFBD877413E⟩, ⟨0xBFFCFE532AF463F1⟩, ⟨0x3FECE62084F117D8⟩⟩
    let s0 := { State.reset with filt := { State.reset.filt with mark := .cleared Params.default.zero c } }
    (filtRun Params.default .mark (Params.default.num.ops.ofInt16 1000) s0).2 = ⟨0x40483A21F16475B7⟩ := by decide +kernel

/-- R63: the sample 0x8000 is -32768. -/
theorem test_sample_number : BinaryFormat.binary64.ofSample 0x8000 = BinaryFormat.binary64.ofRat (-32768) := by decide +kernel

/-- IEEE 754: 1/10 and -1/3 in binary32 and in binary64, and the double of the largest binary32 value. -/
theorem test_binaryFormats :
    let single : BinaryFormat := ⟨8, 23⟩
    [single.ofRat (1 / 10), single.ofRat (-1 / 3), single.add ⟨0x7F7FFFFF⟩ ⟨0x7F7FFFFF⟩] = [⟨0x3DCCCCCD⟩, ⟨0xBEAAAAAB⟩, ⟨0x7F800000⟩]
    ∧ [BinaryFormat.binary64.ofRat (1 / 10), BinaryFormat.binary64.ofRat (-1 / 3)]
      = [⟨0x3FB999999999999A⟩, ⟨0xBFD5555555555555⟩] := by decide +kernel

/-! ## Parameters other than the defaults -/

/-- R234: with `USOS` on, `0x1B, 0x01, 0x04, 0x01` from reset gives none, `3`, space, `E`; with it off the last is `3`. -/
theorem test_usos :
    let run (P : Params) (r : State × List (Option Scalar)) (d : BitVec 5) : State × List (Option Scalar) :=
      ((ita2Char P d r.1).1, r.2 ++ [(ita2Char P d r.1).2])
    let results (P : Params) := ([0x1B, 0x01, 0x04, 0x01].foldl (run P) (State.powerOn P, [])).2
    results { Params.default with usos := true } = [none, some 0x33, some 0x20, some 0x45]
    ∧ results Params.default = [none, some 0x33, some 0x20, some 0x33] := by decide +kernel

/-- R138: with `ZC_DIV = 2` the position 3 lies in bin 1; the instruction takes the divisor from the state's parameters. -/
theorem test_zcDiv :
    let s0 (zcDiv : Nat) : State := { State.powerOn { Params.default with zcDiv := zcDiv } with
      cfg := { State.reset.cfg with N := 8 }
      bx := { State.reset.bx with oldRaw := true, run := 7, untilEvent := 5, hist := [0, 0, 0, 0] } }
    (∃ t, exec .bitxZc (s0 2) = .next t ∧ t.bx.hist = [0, 1, 0, 0])
    ∧ ∃ t, exec .bitxZc (s0 4) = .next t ∧ t.bx.hist = [1, 0, 0, 0] :=
  ⟨⟨_, rfl, by decide +kernel⟩, ⟨_, rfl, by decide +kernel⟩⟩

/-! ## Bit extractor -/

/-- V42 and R150: off2 and correction. -/
theorem test_evaluate_arithmetic :
    (rawOffset2 Params.default 120 5, correction Params.default 40) = (40, 3) ∧ (rawOffset2 Params.default 120 25, correction Params.default (-40)) = (-40, -2)
    ∧ (rawOffset2 Params.default 243 30, correction Params.default 240) = (240, 15)
    ∧ (rawOffset2 Params.default 243 31, correction Params.default (-238)) = (-238, -15) := by decide

/-- V20: the symbol period, the clamp and the half-sample rounding. -/
theorem test_symbolPeriod :
    symbolPeriod 12000 (clampBaud 50) 2 = 120 ∧ symbolPeriod 11025 (clampBaud (4545 / 100)) 1 = 243
    ∧ symbolPeriod 1000 (clampBaud 300) 2 = 2 ∧ symbolPeriod 12000 (clampBaud 5) 1 = 1200 := by decide +kernel

/-- V40, step 8: a transition after a run of 7 is counted in bin 0, at position 1. -/
theorem test_bitxZc_counts :
    let s0 := { State.reset with
      cfg := { State.reset.cfg with N := 8 }
      bx := { State.reset.bx with oldRaw := true, run := 7, untilEvent := 7, hist := [0, 0] } }
    ((bitxZc Params.default s0).bx.hist, (bitxZc Params.default s0).bx.run) = ([1, 0], 0) := by decide

/-- V40, step 20: the one-sample glitch is not counted. -/
theorem test_bitxZc_glitch :
    let s0 := { State.reset with
      cfg := { State.reset.cfg with N := 8 }
      bx := { State.reset.bx with rawMark := true, oldRaw := false, run := 0, untilEvent := 3, hist := [2, 0] } }
    ((bitxZc Params.default s0).bx.hist, (bitxZc Params.default s0).bx.run) = ([2, 0], 0) := by decide

/-- V31: an accumulator of 0 gives symbol bit 0. -/
theorem test_bitxDump_tie :
    let s0 := { State.reset with bx := { State.reset.bx with symBit := true } }
    ((bitxDump s0).bx.pulseEdge, (bitxDump s0).bx.symBit) = (true, false) := by decide

/-! ## Framing validator (V60) -/

theorem test_frmCheck :
    let d51 := descriptorOf (.async .five .one false)
    let d515 := descriptorOf (.async .five .oneAndHalf false)
    [frmCheck d51 0x54, frmCheck d51 0x55, frmCheck d51 0x14, frmCheck d515 0x7330, frmCheck d515 0x7320,
      frmCheck d515 0x7331, frmCheck d515 0x3330] = [true, false, false, true, false, false, false] := by decide +kernel

theorem test_frmExtract :
    (frmExtract (descriptorOf (.async .five .one false)) 0x54, frmExtract (descriptorOf (.async .five .oneAndHalf false)) 0x7320,
      frmExtract (descriptorOf (.async .seven .oneAndHalf false)) 0x7C00C) = (0x0A, 0x08, 0x41) := by decide +kernel

/-- R191: `5N1.5` gives 1, 5, 1.5, 15, doubled; `5N3`, `5n1` and a blank are malformed. -/
theorem test_frmParse :
    frmParse (portText ['5', 'N', '1', '.', '5']) = some ⟨1, 5, .oneAndHalf, 15, true, false⟩
    ∧ frmParse (portText ['8', 'N', '1', '.', '5', 'E', 'F', 'R']) = some ⟨1, 8, .oneAndHalf, 21, true, true⟩
    ∧ frmParse (portText ['5', 'N', '3']) = none ∧ frmParse (portText ['5', 'n', '1']) = none
    ∧ frmParse (portText []) = none := by decide +kernel

/-! ## Character decoders -/

/-- V62: the phased sequence with a Figures shift, by results. -/
theorem test_fecChar_sequence :
    let run (r : State × List (Option Scalar × Bool)) (d : BitVec 7) : State × List (Option Scalar × Bool) :=
      ((fecChar Params.default d r.1).1, r.2 ++ [(fecChar Params.default d r.1).2])
    let r := [0x66, 0x0F, 0x66, 0x36, 0x66, 0x56].foldl run (State.reset, [])
    r.2 = [(none, true), (none, true), (none, true), (none, true), (none, true), (some 0x33, true)]
      ∧ r.1.diag = ⟨3, 0, 0⟩ := by decide +kernel

/-- V63: both copies bad. -/
theorem test_fecChar_bothBad :
    let s := [0x66, 0x0F, 0x01, 0x03].foldl (fun s d => (fecChar Params.default d s).1) State.reset
    s.diag.failTally = 1 ∧ [s.fec.c1, s.fec.c2, s.fec.c3] = [0x00, 0x66, 0x01] := by decide +kernel

/-- V64, first row: none, `3`, none, `E`. -/
theorem test_ita2Char_sequence :
    let run (r : State × List (Option Scalar)) (d : BitVec 5) : State × List (Option Scalar) :=
      ((ita2Char Params.default d r.1).1, r.2 ++ [(ita2Char Params.default d r.1).2])
    ([0x1B, 0x01, 0x1F, 0x01].foldl run (State.reset, [])).2 = [none, some 0x33, none, some 0x45] := by decide +kernel

/-- V64, fifth row: a repeated shift and two control characters passed through. -/
theorem test_ita2Char_figures :
    let run (r : State × List (Option Scalar)) (d : BitVec 5) : State × List (Option Scalar) :=
      ((ita2Char Params.default d r.1).1, r.2 ++ [(ita2Char Params.default d r.1).2])
    ([0x1F, 0x1B, 0x1B, 0x17, 0x09, 0x0B].foldl run (State.reset, [])).2
      = [none, none, none, some 0x31, some 0x05, some 0x07] := by decide +kernel

/-- R252: a direct call with 0xC1 in 7-bit mode gives U+0041, in 8-bit mode U+00C1. -/
theorem test_ascChar : ascChar 7 0xC1 = 0x41 ∧ ascChar 8 0xC1 = 0xC1 := by decide

/-! ## Facade -/

/-- The ports of V70. -/
def portsV70 : ConfigPorts :=
  ⟨12000, 500, 170, 50, false, portText ['5', 'N', '1', '.', '5'], portText ['I', 'T', 'A', '2']⟩

/-- The constructed, stopped block of V70. -/
def stopped : State := construct Params.default (State.reset.setPorts portsV70)

/-- The running block of V70. -/
def running : State := start stopped

theorem test_construct_constants :
    (stopped.cfg.N, stopped.cfg.nbins, stopped.cfg.T, stopped.cfg.msb) = (120, 30, 15, 0x4000)
    ∧ (stopped.cfg.markFreq, stopped.cfg.spaceFreq) = (593, 423) ∧ statusPort stopped = 0b000001 := by decide +kernel

/-- V70: the error cases, by `STATUS.err`. -/
theorem test_construct_errors :
    let err (p : ConfigPorts) : ErrCode := (construct Params.default (State.reset.setPorts p)).ctl.err
    [err { portsV70 with framing := portText ['5', 'N', '3'] },
      err { portsV70 with encoding := portText ['B', 'a', 'u', 'd', 'o', 't'] },
      err { portsV70 with framing := portText ['9', 'X', '9'], encoding := portText ['F', 'O', 'O'] },
      err { portsV70 with framing := portText ['7', 'N', '1'] }, err { portsV70 with sampleRate := 999 },
      err { portsV70 with centerFreq := 0 }, err { portsV70 with centerFreq := 5950 }, err { portsV70 with baud := 0 }]
    = [.badFraming, .badEncoding, .badFraming, .badCombination, .badConfig, .badConfig, .badConfig, .ok] := by decide +kernel

/-- V71: START twice, STOP twice, SAMPLE after STOP, by `STATUS.err`. -/
theorem test_lifecycle :
    [(start running).ctl.err, (stop (stop running)).ctl.err, (sample Params.default 5 (stop running)).ctl.err,
      (start State.reset).ctl.err, (resetCommand Params.default State.reset).ctl.err]
    = [.alreadyRunning, .ok, .notRunning, .notConstructed, .notConstructed] := by decide +kernel

/-! ## Frame synchronizer -/

/-- A block in SteadyState under `8N1` and ASCII, with the error count 1. -/
def steadyAscii : State :=
  let d := descriptorOf (.async .eight .one false)
  { running with
    cfg := { running.cfg with desc := d, enc := .ascii, T := 10, msb := 0x200 }
    sync := ⟨.steadyState, false, 0, 0, 10, 0, [0, 0, 0, 0], 1, false⟩ }

/-- The same under `7N1`. -/
def steadyAscii7 : State :=
  let d := descriptorOf (.async .seven .one false)
  { steadyAscii with cfg := { steadyAscii.cfg with desc := d, T := 9, msb := 0x100 } }

/-- R252's example: the code word 0xC1 is U+0041 under a 7-bit framing and U+00C1 under an 8-bit one; 0x41 is U+0041
under both. -/
theorem test_asciiCode : (asciiWord 0xC1 steadyAscii7).ret = .char (some 0x41)
    ∧ (asciiWord 0xC1 steadyAscii).ret = .char (some 0xC1)
    ∧ (asciiWord 0x41 steadyAscii7).ret = .char (some 0x41) ∧ (asciiWord 0x41 steadyAscii).ret = .char (some 0x41) := by
  decide +kernel

/-- V65: the raw code 0x282 gives U+0041. -/
theorem test_frame_ascii : (receiveFrame (.async .eight .one false) 0x41 steadyAscii).out = [.char 0x41]
    ∧ (receiveFrame (.async .eight .one false) 0x41 steadyAscii).sync.errCount = 0 := by decide +kernel

/-- V51: from the count 2 an invalid group forces the resynchronisation. -/
theorem test_frame_forced :
    let s := receiveIllegal (.async .eight .one false) 0x082 { steadyAscii with sync.errCount := 2 }
    (s.out, s.sync.resync, s.sync.errCount, s.diag.failTally) = ([.state .hunting], true, 3, 1) := by decide +kernel

/-- V50: a partial window is not tested. -/
theorem test_hunting_partial :
    let s0 := { steadyAscii with sync := ⟨.hunting, true, 0, 0, 0, 0, [0, 0, 0, 0], 0, false⟩ }
    ((syncBit Params.default true s0).sync.state, (syncBit Params.default true s0).sync.fill) = (.hunting, 1) := by decide +kernel

/-! ## Witnesses: the hypotheses of each statement are met -/

theorem witness_DecodeInvertsEncode :
    (Instr.sample 0xFFFF).wellFormed = true ∧ encode (.sample 0xFFFF) = some (.command, 0x5FFFF) := by decide

theorem witness_EncodeInvertsDecode : decode (.frame .fourOfSeven) 0x7F = .ok (.frame4of7 0x7F) := by decide

theorem witness_FrameDecoderAgreesWithValidator :
    (0x1FFFFF : RawCode).toNat < 2 ^ (FramingSpec.async .eight .oneAndHalf true).totalBits := by decide

theorem witness_StepRunsDecodedInstruction :
    (running.setInbox [.word .command 0x50001]).inbox = [.word .command 0x50001]
    ∧ decode .command 0x50001 = .ok (.sample 1) := ⟨rfl, by decide⟩

theorem witness_NoInputStopsTheMachine : ∀ sp w rest,
    (running.setInbox [.word .ita2 0x1F]).inbox = .word sp w :: rest → w.toNat < 2 ^ sp.width := by
  intro sp w rest h
  cases h
  decide

theorem witness_ReservedOpcodesBadCommand : (6 ≤ 6 ∧ 6 < 16) ∧ 6 ≤ 15 ∧ 15 < 16 := by decide

theorem witness_ResetEffect : State.reset.ctl.constructed = false ∧ stopped.ctl.constructed = true := by decide +kernel

/-- The unconstructed block with other strings on ports 5 and 6. -/
def withTexts (framing encoding : List Char) : State :=
  State.reset.setPorts { portsV70 with framing := portText framing, encoding := portText encoding }

/-- A `5N1` ITA2 block to be constructed at 999 Hz, one less than the smallest sample rate. -/
def tooSlow : State := State.reset.setPorts { (withTexts ['5', 'N', '1'] ['I', 'T', 'A', '2']).ports with sampleRate := 999 }

theorem witness_ConstructFirstFailureWins :
    let d := descriptorOf (.async .five .one false)
    let s3 := withTexts ['5', 'N', '1'] ['F', 'O', 'O']
    let s4 := withTexts ['5', 'N', '1'] ['A', 'S', 'C', 'I', 'I']
    running.ctl.running = true
    ∧ ((withTexts ['5', 'N', '3'] []).ctl.running = false ∧ frmParse (withTexts ['5', 'N', '3'] []).ports.framing = none)
    ∧ (s3.ctl.running = false ∧ frmParse s3.ports.framing = some d ∧ ∀ enc, ¬NamesEncoding s3.ports.encoding enc)
    ∧ (s4.ctl.running = false ∧ frmParse s4.ports.framing = some d ∧ NamesEncoding s4.ports.encoding .ascii
        ∧ ¬PairLegal .ascii d)
    ∧ tooSlow.ctl.running = false ∧ frmParse tooSlow.ports.framing = some d ∧ NamesEncoding tooSlow.ports.encoding .ita2
      ∧ PairLegal .ita2 d ∧ ¬ConfigLegal tooSlow.params tooSlow.ports d :=
  ⟨by decide +kernel, ⟨rfl, by decide +kernel⟩,
    ⟨rfl, by decide +kernel, (encSelect_eq_none_iff _).1 (by decide +kernel)⟩,
    ⟨rfl, by decide +kernel, (encSelect_eq_some_iff _ _).1 (by decide +kernel), mt (comboOk_iff _ _).2 (by decide +kernel)⟩,
    rfl, by decide +kernel, (encSelect_eq_some_iff _ _).1 (by decide +kernel), (comboOk_iff _ _).1 (by decide +kernel),
    mt (configOk_iff _ _ _ .ita2).2 (by decide +kernel)⟩

/-- The ports for the smallest sample rate, and V20's `N = 2`. -/
def portsSmallest : ConfigPorts := { portsV70 with sampleRate := 1000, centerFreq := 200, shift := 50, baud := 300 }

theorem witness_ConstructBuildsDecoder :
    let d := descriptorOf (.async .five .oneAndHalf false)
    State.reset.ctl.running = false ∧ frmParse portsSmallest.framing = some d ∧ NamesEncoding portsSmallest.encoding .ita2
    ∧ PairLegal .ita2 d ∧ ConfigLegal Params.default portsSmallest d ∧ (latch Params.default portsSmallest d .ita2).N = 2 :=
  ⟨rfl, by decide +kernel, (encSelect_eq_some_iff _ _).1 (by decide +kernel), (comboOk_iff _ _).1 (by decide +kernel),
    (configOk_iff _ _ _ .ita2).1 (by decide +kernel), by decide +kernel⟩

theorem witness_SampleRefusedLeavesState :
    State.reset.ctl.constructed = false ∧ stopped.ctl.constructed = true ∧ stopped.ctl.running = false := by decide +kernel

theorem witness_SampleRunsOperationsInOrder : running.ctl.constructed = true ∧ running.ctl.running = true := by
  decide +kernel

theorem witness_CommandResultCodes : ∃ t u, exec (.nop 0) State.reset = .next t ∧ exec (.sample 5) stopped = .next u
    ∧ u.ctl.err ≠ .ok ∧ Instr.nop 0 ≠ .sample 0 := ⟨_, _, rfl, rfl, by decide +kernel, by decide⟩

theorem witness_LifecycleTransitions : ∃ t u v w, exec (.construct 0) (State.reset.setPorts portsV70) = .next t
    ∧ exec (.start 0) stopped = .next u ∧ exec (.stop 0) running = .next v ∧ exec .bitxAcc running = .next w
    ∧ t.ctl.constructed = true ∧ u.ctl.running = true ∧ v.ctl.running = false :=
  ⟨_, _, _, _, rfl, rfl, rfl, rfl, by decide +kernel, by decide +kernel, rfl⟩

theorem witness_ConfigurationImmutable : ∃ t u, exec (.reset 0) stopped = .next t
    ∧ exec (.filtCfg .lp .lowpass 140 12000 (.rational 1)) stopped = .next u ∧ ∀ imm, Instr.reset 0 ≠ .construct imm :=
  ⟨_, _, rfl, rfl, fun _ => nofun⟩

theorem witness_TalliesDecideNothing : ∃ t, exec (.fecChar 0x0F) running = .next t := ⟨_, rfl⟩

theorem witness_PowerOnAccepts :
    let d := descriptorOf (.async .five .oneAndHalf false)
    frmParse portsV70.framing = some d ∧ NamesEncoding portsV70.encoding .ita2 ∧ PairLegal .ita2 d
    ∧ ConfigLegal Params.default portsV70 d :=
  ⟨by decide +kernel, (encSelect_eq_some_iff _ _).1 (by decide +kernel), (comboOk_iff _ _).1 (by decide +kernel),
    (configOk_iff _ _ _ .ita2).1 (by decide +kernel)⟩

theorem running_params : running.params = Params.default := by decide +kernel

theorem witness_config : ConfigWf running.params running.cfg :=
  running_params ▸ ⟨portsV70, .async .five .oneAndHalf false, .ita2, by decide +kernel, by decide +kernel, by decide +kernel⟩

/-- The content of `sync.rec` is free after CONSTRUCT, and so are the coefficients: a running state whose window and
coefficients are known. -/
def runningKnown : State :=
  { running with filt := State.reset.filt, sync := ⟨.noSignal, true, 0, 0, 0, 0, [0, 0, 0, 0x7FFF], 0, false⟩ }

theorem runningKnown_fits : (runningKnown.sync.recd.all fun c => decide (c.toNat < 2 ^ runningKnown.cfg.T)) = true := by
  decide +kernel

theorem witness_params : ParamsLegal runningKnown.params := by constructor <;> decide +kernel

theorem witness_numbers : NumbersWf runningKnown where
  sections f := by cases f <;> constructor <;> decide +kernel
  avg := by decide +kernel

theorem witness_timing : TimingWf runningKnown := by constructor <;> decide +kernel

theorem witness_sync : SyncWf runningKnown := by
  constructor
  case recd_fits => exact fun c hc => of_decide_eq_true (List.all_eq_true.mp runningKnown_fits c hc)
  all_goals decide +kernel

theorem witness_decoders : DecodersWf runningKnown := by constructor <;> decide +kernel

theorem witness_sound : Sound runningKnown where
  params_legal := witness_params
  numbers := witness_numbers
  running_constructed := by decide +kernel
  tallies := by decide +kernel
  constructed := fun _ => ⟨witness_config, witness_timing, witness_sync, witness_decoders⟩
  unconstructed := fun h => absurd h (by decide +kernel)

theorem witness_StepKeepsSound : ∃ t, Sound runningKnown ∧ step runningKnown = .next t := by
  have h : runningKnown.inbox = [] := by decide +kernel
  exact ⟨idle runningKnown, witness_sound, by simp only [step, runInbox, h]⟩

theorem witness_StatusRegisterLayout : Sound runningKnown ∧ runningKnown.ctl.constructed = true :=
  ⟨witness_sound, by decide +kernel⟩

theorem witness_FrameLengthQueries : ConfigWf running.params running.cfg := witness_config

theorem witness_BitxCorrCountsTicks :
    ({ running with bx.phase := 119 } : State).bx.phase ≠ 0
    ∧ (let s := ({ running with bx.zcCount := 14 } : State); s.bx.phase = 0 ∧ s.bx.zcCount + 1 < s.params.zcCycle) := by decide +kernel

theorem witness_BitxCorrEvaluates :
    let empty : State := { running with bx.zcCount := 15 }
    let peak : State := { running with bx := { running.bx with zcCount := 15, hist := [1, 3, 0, 3] } }
    (empty.bx.phase = 0 ∧ empty.params.zcCycle ≤ empty.bx.zcCount + 1 ∧ ∀ q ∈ empty.bx.hist, q = 0)
    ∧ peak.bx.phase = 0 ∧ peak.params.zcCycle ≤ peak.bx.zcCount + 1 ∧ 0 < 3 ∧ peak.bx.hist[1]? = some 3
      ∧ (∀ q ∈ peak.bx.hist, q ≤ 3) ∧ ∀ j q, j < 1 → peak.bx.hist[j]? = some q → q < 3 :=
  ⟨by decide +kernel, by decide +kernel, by decide +kernel, by decide, rfl, by decide +kernel, fun j q hj h => by
    obtain rfl : j = 0 := by omega
    cases h
    decide⟩

theorem witness_ScheduleStaysBounded : ParamsLegal Params.default
    ∧ (2 ≤ 2 ∧ 0 < ceilDiv 2 Params.default.zcDiv) ∧ 2 ≤ 243 ∧ 60 < ceilDiv 243 Params.default.zcDiv :=
  ⟨by constructor <;> decide, by decide⟩

theorem witness_CorrectionDeadZone : 0 < Params.default.loopDiv := by decide

theorem witness_ResetIsSound : ParamsLegal { Params.default with usos := true, zcDiv := 2 } := by constructor <;> decide

theorem witness_AbsoluteCountersSimulate : ∃ t, runningKnown.ctl.constructed = true ∧ runningKnown.ctl.running = true
    ∧ 0 < runningKnown.cfg.N ∧ (0 : Int) ≤ 119 ∧ runningKnown.bx.untilEvent = 119 - 0
    ∧ (runningKnown.bx.phase : Int) = 0 % runningKnown.cfg.N ∧ exec (.sample 1000) runningKnown = .next t :=
  ⟨_, by decide +kernel, by decide +kernel, by decide +kernel, by decide, by decide +kernel, by decide +kernel, rfl⟩

/-- The same at a pulse edge, where both counters agree. -/
theorem witness_AbsoluteCountersSimulate_edge :
    let s : State := { runningKnown with bx := { runningKnown.bx with untilEvent := 0, phase := 119 } }
    s.bx.untilEvent = 119 - 119 ∧ (s.bx.phase : Int) = 119 % s.cfg.N ∧ (119 : Int) ≤ 119 := by decide +kernel

theorem witness_SyncSqlEffect : running.sync.state = .noSignal ∧ steadyAscii.sync.state ≠ .noSignal := by decide +kernel

theorem witness_SyncBitConsumesResync : running.sync.resync = true := by decide +kernel

/-- A `5N1` ITA2 block about to complete a group: six bits of 0x54 are in, the seventh is a 1. -/
def almost (state : SyncState) (validCount : Nat) : State :=
  { running with
    cfg := { running.cfg with desc := descriptorOf (.async .five .one false), T := 7, msb := 0x40 }
    sync := ⟨state, false, 0x28, 6, 6, validCount, [0x54, 0x6A, 0x54, 0], 0, false⟩ }

theorem witness_HuntingBitEffect :
    let s := almost .hunting 0
    s.sync.resync = false ∧ s.sync.state = .hunting
    ∧ decCheck s ((s.sync.code >>> 1) ||| (if true then s.cfg.msb else 0)) = true := by decide +kernel

theorem witness_ConfirmingBitEffect :
    let s := almost .confirming 1
    let code (bit : Bool) := (s.sync.code >>> 1) ||| (if bit then s.cfg.msb else 0)
    let s' : State := { s with sync.bitCount := 5 }
    s.sync.resync = false ∧ s.sync.state = .confirming ∧ s'.sync.resync = false ∧ s'.sync.state = .confirming
    ∧ s'.sync.bitCount + 1 ≠ s'.cfg.T
    ∧ (s.sync.bitCount + 1 = s.cfg.T ∧ decCheck s (code true) = true ∧ s.sync.validCount + 1 ≠ s.params.confirmN)
    ∧ decCheck s (code false) = false := by decide +kernel

theorem witness_FourthValidGroupFlushes :
    let s := almost .confirming 3
    s.sync.resync = false ∧ s.sync.state = .confirming ∧ s.sync.bitCount + 1 = s.cfg.T ∧ s.params.confirmN = 4
    ∧ s.sync.validCount = 3
    ∧ s.sync.recd = [0x54, 0x6A, 0x54, 0]
    ∧ decCheck s ((s.sync.code >>> 1) ||| (if true then s.cfg.msb else 0)) = true := by decide +kernel

theorem witness_SteadyBitInsideGroup :
    let waiting : State := { almost .steadyState 0 with sync.waitSpace := true, sync.bitCount := 0 }
    let inside : State := { almost .steadyState 0 with sync.bitCount := 5 }
    (waiting.sync.resync = false ∧ waiting.sync.state = .steadyState ∧ waiting.sync.waitSpace = true
      ∧ waiting.sync.bitCount + 1 ≠ waiting.cfg.T)
    ∧ inside.sync.resync = false ∧ inside.sync.state = .steadyState ∧ inside.sync.waitSpace = false
      ∧ inside.sync.bitCount + 1 ≠ inside.cfg.T := by decide +kernel

theorem witness_SteadyGroupEffect :
    let s := almost .steadyState 0
    s.sync.resync = false ∧ s.sync.state = .steadyState ∧ s.sync.waitSpace = false ∧ s.sync.bitCount + 1 = s.cfg.T := by
  decide +kernel

theorem witness_TransitionsAndStateEvents : ∃ t u v, exec (.syncSql true) running = .next t
    ∧ exec (.syncSql false) steadyAscii = .next u ∧ (almost .confirming 3).sync.resync = false
    ∧ exec (.syncBit true) (almost .confirming 3) = .next v ∧ v.sync.state = .steadyState :=
  ⟨_, _, _, rfl, rfl, rfl, rfl, by decide +kernel⟩

/-- The state after one sample. -/
def sampled : State := sample runningKnown.params 1000 runningKnown

theorem witness_SquelchInvariant :
    runningKnown.sync.state = .noSignal ∧ [sampled].length = [(1000 : Sample)].length
    ∧ exec (.sample 1000) runningKnown = .next sampled ∧ sampled.ctl.err = .ok
    ∧ runningKnown.params.num.ops.lt sampled.bx.avg (runningKnown.params.num.ops.const runningKnown.params.signalFloor) = true :=
  ⟨by decide +kernel, rfl, rfl, by decide +kernel, by decide +kernel⟩

theorem witness_OutputListBounds : ∃ t, Sound runningKnown ∧ runningKnown.ctl.running = true
    ∧ exec (.sample 1000) runningKnown = .next t := ⟨_, witness_sound, by decide +kernel, rfl⟩

theorem witness_FrameArrivesAsOneGroup :
    let spec := FramingSpec.async .eight .one false
    steadyAscii.ctl.constructed = true ∧ steadyAscii.ctl.running = true ∧ steadyAscii.cfg.desc = descriptorOf spec
    ∧ steadyAscii.cfg.T = spec.totalBits ∧ steadyAscii.cfg.msb = (1 : RawCode) <<< (spec.totalBits - 1)
    ∧ steadyAscii.sync.state = .steadyState ∧ steadyAscii.sync.resync = false ∧ steadyAscii.sync.bitCount = 0
    ∧ steadyAscii.sync.code = 0 ∧ (spec = .fourOfSeven → steadyAscii.sync.waitSpace = false) :=
  ⟨by decide +kernel, by decide +kernel, rfl, rfl, by decide +kernel, rfl, rfl, rfl, rfl, nofun⟩

/-- A 4-of-7 block in SteadyState at a group boundary. -/
def steadyGroups : State :=
  { steadyAscii with cfg := { steadyAscii.cfg with desc := descriptorOf .fourOfSeven, enc := .ccir476, T := 7, msb := 0x40 } }

theorem witness_FrameArrivesAsOneGroup_fourOfSeven :
    steadyGroups.ctl.constructed = true ∧ steadyGroups.ctl.running = true
    ∧ steadyGroups.cfg.desc = descriptorOf .fourOfSeven ∧ steadyGroups.cfg.T = FramingSpec.fourOfSeven.totalBits
    ∧ steadyGroups.cfg.msb = (1 : RawCode) <<< (FramingSpec.fourOfSeven.totalBits - 1)
    ∧ steadyGroups.sync.state = .steadyState ∧ steadyGroups.sync.resync = false ∧ steadyGroups.sync.bitCount = 0
    ∧ steadyGroups.sync.code = 0 ∧ steadyGroups.sync.waitSpace = false := by decide +kernel

/-- A `5N1` ITA2 block in SteadyState. -/
def steadyIta2 : State := almost .steadyState 0

/-- R44, R304: a code word touches nothing where its decoder is not selected, stopped or squelched; else it runs. -/
theorem test_codeWord :
    fecWord 0x0F steadyIta2 = steadyIta2 ∧ ita2Word 0x1B steadyGroups = steadyGroups
    ∧ ita2Word 0x1B (stop steadyIta2) = stop steadyIta2 ∧ ita2Word 0x1B running = running
    ∧ (ita2Word 0x1B steadyIta2).ita2 = ⟨false, true, 0x1B⟩ ∧ (fecWord 0x66 steadyGroups).fec.c3 = 0x66 :=
  ⟨codeWord_idle _ (by decide +kernel), codeWord_idle _ (by decide +kernel), codeWord_stopped _ _ _ rfl,
    codeWord_idle _ (by decide +kernel), by decide +kernel, by decide +kernel⟩

theorem witness_FecCharEffect : (steadyGroups.ctl.constructed = true ∧ steadyGroups.ctl.running = true
      ∧ steadyGroups.cfg.enc = .ccir476 ∧ steadyGroups.sync.state ≠ .noSignal)
    ∧ steadyIta2.cfg.enc ≠ .ccir476 ∧ (stop steadyGroups).ctl.running = false := by decide +kernel

theorem witness_Ita2CharEffect : (steadyIta2.ctl.constructed = true ∧ steadyIta2.ctl.running = true
      ∧ steadyIta2.cfg.enc = .ita2 ∧ steadyIta2.sync.state ≠ .noSignal)
    ∧ running.sync.state = .noSignal ∧ (stop steadyIta2).ctl.running = false := by decide +kernel

theorem witness_AsciiFrameEmitsItsData :
    let spec := FramingSpec.async .eight .one false
    steadyAscii.ctl.constructed = true ∧ steadyAscii.ctl.running = true ∧ steadyAscii.cfg.enc = .ascii
    ∧ steadyAscii.cfg.desc = descriptorOf spec ∧ steadyAscii.cfg.T = spec.totalBits
    ∧ steadyAscii.cfg.msb = (1 : RawCode) <<< (spec.totalBits - 1) ∧ (0xFF : DataCode).toNat < 2 ^ DataBits.eight.count
    ∧ steadyAscii.sync.state = .steadyState ∧ steadyAscii.sync.resync = false ∧ steadyAscii.sync.bitCount = 0
    ∧ steadyAscii.sync.code = 0 := by decide +kernel

theorem witness_StoppedBlockReceivesNoFrame :
    let t := (stop steadyIta2).setInbox [.word .ita2 0x1F]
    t.ctl.running = false ∧ Space.ita2 ≠ .command ∧ (0x1F : RawCode).toNat < 2 ^ Space.ita2.width
    ∧ t.inbox = [.word .ita2 0x1F] := by decide +kernel

theorem witness_FrmParseTable : frmParse (portText ['4', '/', '7']) = some ⟨0, 7, .none, 7, false, false⟩
    ∧ frmParse (portText ['8', 'N', '2', 'E', 'F', 'R']) = some ⟨1, 8, .two, 11, false, true⟩ := by decide +kernel

theorem witness_FrmCheckEffect :
    steadyAscii.cfg.desc = descriptorOf (.async .eight .one false)
    ∧ ({ running with cfg.desc := descriptorOf (.async .seven .two true) } : State).cfg.desc = descriptorOf (.async .seven .two true)
    ∧ running.cfg.desc = descriptorOf (.async .five .oneAndHalf false) := by decide +kernel

theorem witness_FrmExtractEffect : running.cfg.desc = descriptorOf (.async .five .oneAndHalf false)
    ∧ ({ running with cfg.desc := descriptorOf .fourOfSeven } : State).cfg.desc = descriptorOf .fourOfSeven := by
  decide +kernel

theorem witness_DecoderDispatch :
    ({ running with cfg.enc := .ccir476 } : State).cfg.enc = .ccir476
    ∧ (running.cfg.enc = .ita2 ∧ frmCheck running.cfg.desc 0x7330 = true ∧ frmCheck running.cfg.desc 0x7331 = false)
    ∧ steadyAscii.cfg.enc = .ascii ∧ frmCheck steadyAscii.cfg.desc 0x282 = true := by decide +kernel

theorem witness_GlyphTablesCorrespond : fecCheck 0x00 = false ∧ fecCheck 0x56 = true
    ∧ (0x56 : BitVec 7) ∉ [0x66, 0x0F, 0x33, 0x6A, 0x5A, 0x36] := by decide

theorem witness_AsciiPassThrough :
    let atWork (s : State) : Prop :=
      s.ctl.constructed = true ∧ s.ctl.running = true ∧ s.cfg.enc = .ascii ∧ s.sync.state ≠ .noSignal
    (atWork steadyAscii7 ∧ steadyAscii7.cfg.desc.dataBits = 7) ∧ (atWork steadyAscii ∧ steadyAscii.cfg.desc.dataBits ≠ 7)
    ∧ ¬atWork steadyGroups := by decide +kernel

end Sys2Proof.Tests
end

