-- ==== Sys2Proof/Proofs/Scope/Datum.lean ====
section
/-! Every number the block holds is a value of `NUM` (R15, R22, R23, R25): what each operation of the filter bank does to
that. -/

namespace Sys2Proof.Machine

/-! ## The results of the arithmetic, in every format -/

theorem datum_const (fmt : NumFormat) (q : Rat) : fmt.datum (fmt.ops.const q) = fmt.ops.const q := by
  cases fmt with
  | ieee F => exact (constant_datum F 0 q).2
  | other _ => rfl

theorem datum_ofInt16 (fmt : NumFormat) (x : Sample) : fmt.datum (fmt.ops.ofInt16 x) = fmt.ops.ofInt16 x := by
  cases fmt with
  | ieee F => exact (constant_datum F x 0).1
  | other _ => rfl

theorem datum_sub (fmt : NumFormat) (a b : Number) : fmt.datum (fmt.ops.sub a b) = fmt.ops.sub a b := by
  cases fmt with
  | ieee F => exact (arithmetic_datum F a b).2.1
  | other _ => rfl

theorem datum_div (fmt : NumFormat) (a b : Number) : fmt.datum (fmt.ops.div a b) = fmt.ops.div a b := by
  cases fmt with
  | ieee F => exact (arithmetic_datum F a b).2.2.2.1
  | other _ => rfl

theorem datum_max (fmt : NumFormat) (a b : Number) : fmt.datum (fmt.ops.max a b) = fmt.ops.max a b := by
  cases fmt with
  | ieee F => exact (arithmetic_datum F a b).2.2.2.2.2
  | other _ => rfl

/-! ## Sections -/

theorem FilterBank_get_set (b : FilterBank) (f g : SectionName) (x : Section) :
    (b.set f x).get g = if g = f then x else b.get g := by
  cases f <;> cases g <;> rfl

/-- The three sections of a bank hold values of `NUM`. -/
def BankWf (P : Params) (b : FilterBank) : Prop := ∀ f, SectionWf P (b.get f)

theorem BankWf.set {P : Params} {b : FilterBank} (h : BankWf P b) (f : SectionName) {x : Section} (hx : SectionWf P x) :
    BankWf P (b.set f x) := by
  intro g
  rw [FilterBank_get_set]
  split
  · exact hx
  · exact h g

/-- Clearing the history keeps a section well formed (R115). -/
theorem SectionWf.cleared {P : Params} {x : Section} (h : SectionWf P x) : SectionWf P (.cleared P.zero x.coef) where
  coef := h.coef
  history := ⟨datum_const .., datum_const .., datum_const .., datum_const ..⟩

theorem SectionWf.powerOn (P : Params) : SectionWf P (.powerOn P.zero) where
  coef := ⟨datum_const .., datum_const .., datum_const .., datum_const .., datum_const ..⟩
  history := ⟨datum_const .., datum_const .., datum_const .., datum_const ..⟩

/-- A section stays well formed over a sample that is a value of `NUM` (R116). -/
theorem SectionWf.step {P : Params} {f : Section} {x : Number} (h : SectionWf P f) (hx : IsDatum P x) :
    SectionWf P (sectionStep P.num.ops f x) where
  coef := h.coef
  history := by
    obtain ⟨hx1, -, hy1, -⟩ := h.history
    exact ⟨hx, hx1, datum_sub .., hy1⟩

/-- The coefficients that FILT.CFG computes are values of `NUM` (R113). -/
theorem SectionWf.configured {P : Params} {x : Section} (h : SectionWf P x) (kind : SectionKind) (fr : Rat) (sr : Nat)
    (q : Resonance) : SectionWf P { x with coef := P.coefficients kind fr sr q } where
  coef := ⟨datum_datum .., datum_datum .., datum_datum .., datum_datum .., datum_datum ..⟩
  history := h.history

/-! ## Operations -/

theorem filtRstAll_bankWf {P : Params} {s : State} (h : BankWf P s.filt) : BankWf P (filtRstAll P s).filt := by
  intro f
  rw [filtRstAll_frame]
  cases f
  · exact (h .mark).cleared
  · exact (h .space).cleared
  · exact (h .lp).cleared

theorem filtRun_bankWf {P : Params} {s : State} {x : Number} (f : SectionName) (h : BankWf P s.filt) (hx : IsDatum P x) :
    BankWf P (filtRun P f x s).1.filt := h.set f ((h f).step hx)

theorem bitxLevel_bankWf {P : Params} {s : State} (x : Sample) (h : BankWf P s.filt) :
    BankWf P (bitxLevel P x s).filt := by
  have hx : IsDatum P (P.num.ops.ofInt16 x) := datum_ofInt16 ..
  exact filtRun_bankWf .lp (filtRun_bankWf .space (filtRun_bankWf .mark h hx) hx) (datum_div ..)

theorem bitxLevel_avg_datum (P : Params) (x : Sample) (s : State) : IsDatum P (bitxLevel P x s).bx.avg := datum_max ..

theorem configureFilters_bankWf {P : Params} {s : State} (h : BankWf P s.filt) : BankWf P (configureFilters P s).filt := by
  have cfg {b : FilterBank} (hb : BankWf P b) (f kind fr sr q) :
      BankWf P (b.set f { b.get f with coef := P.coefficients kind fr sr q }) := hb.set f ((hb f).configured kind fr sr q)
  exact cfg (cfg (cfg h .mark _ _ _ _) .space _ _ _ _) .lp _ _ _ _

theorem powerOn_numbers (P : Params) : NumbersWf (State.powerOn P) where
  sections f := by cases f <;> exact .powerOn P
  avg := datum_const ..

end Sys2Proof.Machine
end

