-- ==== Sys2Proof/Proofs/Scope/Timing.lean ====
section
/-! The ranges of the timing loop inside a sample step (R27 to R32, R46, R145): the operations of R270 widen them and the end
of the step restores them. -/

namespace Sys2Proof.Machine

/-! ## What CONSTRUCT latched -/

theorem descriptorOf_totalBits_pos (spec : FramingSpec) : 0 < (descriptorOf spec).totalBits := by
  cases spec with
  | fourOfSeven => decide
  | async d st efr => cases d <;> cases st <;> exact Nat.zero_lt_succ _

theorem ConfigWf.N_ge {P : Params} {c : Latched} (h : ConfigWf P c) : 2 ≤ c.N := by
  obtain ⟨p, spec, enc, -, -, hok⟩ := h
  simp only [configOk, Bool.and_eq_true, decide_eq_true_eq] at hok
  exact hok.2

theorem ConfigWf.T_pos {P : Params} {c : Latched} (h : ConfigWf P c) : 0 < c.T := by
  obtain ⟨p, spec, enc, rfl, -, -⟩ := h
  exact descriptorOf_totalBits_pos spec

theorem ConfigWf.msb_eq {P : Params} {c : Latched} (h : ConfigWf P c) : c.msb = (1 : RawCode) <<< (c.T - 1) := by
  obtain ⟨p, spec, enc, rfl, -, -⟩ := h
  rfl

/-! ## Arithmetic of the correction (R140, R141, R145) -/

/-- The greatest correction is less than a symbol period (R145). -/
theorem ceilDiv_twice_lt (N L : Nat) (hL : 0 < L) (hN : 2 ≤ N) : ceilDiv N (2 * L) < N := by
  unfold ceilDiv
  rw [Nat.div_lt_iff_lt_mul (by omega)]
  obtain ⟨n, rfl⟩ := Nat.exists_eq_add_of_le hN
  obtain ⟨l, rfl⟩ := Nat.exists_eq_add_of_lt hL
  have expand : (2 + n) * (2 * (0 + l + 1)) = 4 + 4 * l + 2 * n + 2 * (n * l) := by ring
  omega

theorem rawOffset2_range (P : Params) (N idx : Nat) (hN : 0 < N) :
    -(N : Int) ≤ rawOffset2 P N idx ∧ rawOffset2 P N idx < N := by
  have hlo := Int.emod_nonneg (2 * (idx * P.zcDiv : Int) + N) (b := 2 * N) (by omega)
  have hhi := Int.emod_lt_of_pos (2 * (idx * P.zcDiv : Int) + N) (b := 2 * N) (by omega)
  unfold rawOffset2
  omega

/-- A correction never exceeds `ceil(N / (2 * LOOP_DIV))` samples, early or late (R145). -/
theorem correction_range (P : Params) (N : Nat) (off2 : Int) (hL : 0 < P.loopDiv) (hlo : -(N : Int) ≤ off2)
    (hhi : off2 < N) : (correction P off2).natAbs ≤ ceilDiv N (2 * P.loopDiv) := by
  have hd : (0 : Int) < 2 * P.loopDiv := by omega
  have hc : ((ceilDiv N (2 * P.loopDiv) : Nat) : Int) = (N + 2 * P.loopDiv - 1) / (2 * P.loopDiv) := by
    unfold ceilDiv
    push_cast [Nat.cast_sub (show 1 ≤ N + 2 * P.loopDiv by omega)]
    rfl
  have upper : correction P off2 ≤ (ceilDiv N (2 * P.loopDiv) : Nat) := by
    rw [hc]
    exact Int.ediv_le_ediv hd (by omega)
  have lower : -((ceilDiv N (2 * P.loopDiv) : Nat) : Int) ≤ correction P off2 := by
    rw [hc, correction, Int.le_ediv_iff_mul_le hd, neg_mul]
    have := Int.lt_ediv_add_one_mul_self ((N : Int) + 2 * P.loopDiv - 1) hd
    rw [add_mul, one_mul] at this
    omega
  omega

/-! ## The ranges inside a sample step -/

/-- The ranges of the timing loop at some point of a sample step: `least` bounds `bx.untilEvent` from below, `lead` bounds
`abs(bx.acc) + bx.untilEvent` strictly, and `elapsed` counts the samples since the last tick. -/
structure TimingWithin (least lead : Int) (elapsed : Nat) (s : State) : Prop where
  run_le : s.bx.run ≤ s.cfg.N
  least_le : least ≤ s.bx.untilEvent
  acc_until : (s.bx.acc.natAbs : Int) + s.bx.untilEvent < lead
  phase_lt : s.bx.phase < s.cfg.N
  zcCount_lt : s.bx.zcCount < s.params.zcCycle
  hist_length : s.bx.hist.length = s.cfg.nbins
  hist_elapsed : s.bx.hist.sum ≤ s.bx.zcCount * s.cfg.N + elapsed
  corr_range : s.bx.corrPending.natAbs ≤ ceilDiv s.cfg.N (2 * s.params.loopDiv)
  timingError_range : -(s.cfg.N : Int) ≤ s.diag.timingError ∧ s.diag.timingError < s.cfg.N

/-- `N + ceil(N / (2 * LOOP_DIV))`, the greatest number of samples in a window (R145). -/
def windowMax (s : State) : Int := s.cfg.N + ceilDiv s.cfg.N (2 * s.params.loopDiv)

/-- The samples from the last tick to this one, at the start of a sample step. -/
def sinceTick (s : State) : Nat := (s.bx.phase + s.cfg.N - 1) % s.cfg.N

/-- Between two sample steps. -/
theorem timingWf_iff (s : State) : TimingWf s ↔ TimingWithin 0 (windowMax s) (sinceTick s) s := by
  constructor
  · intro h
    exact ⟨h.run_le, h.until_nonneg, h.acc_until, h.phase_lt, h.zcCount_lt, h.hist_length, h.hist_elapsed, h.corr_range,
      h.timingError_range⟩
  · intro h
    have elapsed_lt : sinceTick s < s.cfg.N := Nat.mod_lt _ (Nat.zero_lt_of_lt h.phase_lt)
    have cycle : s.bx.zcCount * s.cfg.N + s.cfg.N ≤ s.params.zcCycle * s.cfg.N := by
      rw [← Nat.succ_mul]
      exact Nat.mul_le_mul_right _ h.zcCount_lt
    have := h.hist_elapsed
    exact ⟨h.run_le, h.least_le, h.acc_until, h.phase_lt, h.zcCount_lt, h.hist_length, h.hist_elapsed, by omega,
      h.corr_range, h.timingError_range⟩

/-- A transition adds at most one entry to the histogram (R138). -/
theorem bitxZc_hist_sum_le (P : Params) (s : State) : (bitxZc P s).bx.hist.sum ≤ s.bx.hist.sum + 1 := by
  have set_le (l : List Nat) (j : Nat) : (l.set j (l.getD j 0 + 1)).sum ≤ l.sum + 1 := by
    induction l generalizing j with
    | nil => simp
    | cons q rest ih =>
      cases j with
      | zero => simp; omega
      | succ j => have := ih j; simp at this ⊢; omega
  rw [bitxZc_cases]
  show (if _ then _ else _ : List Nat).sum ≤ _
  split
  · exact set_le _ _
  · exact Nat.le_succ _

section
variable {least lead : Int} {elapsed : Nat} {s : State}

/-- BITX.LEVEL moves nothing of the timing loop (R130 to R134). -/
theorem bitxLevel_timing (P : Params) (x : Sample) (h : TimingWithin least lead elapsed s) :
    TimingWithin least lead elapsed (bitxLevel P x s) := by
  rw [bitxLevel_frame]
  exact { h with }

/-- BITX.ACC moves `bx.acc` by one (R135). -/
theorem bitxAcc_timing (h : TimingWithin least lead elapsed s) : TimingWithin least (lead + 1) elapsed (bitxAcc s) := by
  have step : ((s.bx.acc + (if s.bx.rawMark then 1 else -1)).natAbs : Int) ≤ s.bx.acc.natAbs + 1 := by
    split <;> omega
  have := h.acc_until
  rw [bitxAcc_frame]
  exact { h with acc_until := by show ((s.bx.acc + _).natAbs : Int) + s.bx.untilEvent < _; omega }

/-- BITX.ZC counts at most one transition (R137). -/
theorem bitxZc_timing (P : Params) (h : TimingWithin least lead elapsed s) :
    TimingWithin least lead (elapsed + 1) (bitxZc P s) := by
  have run_le := bitxZc_run_le P s
  have len := bitxZc_hist_length P s
  have sum_le := bitxZc_hist_sum_le P s
  have := h.hist_elapsed
  rw [bitxZc_frame]
  exact { h with run_le := run_le, hist_length := len.trans h.hist_length, hist_elapsed := by dsimp only; omega }

/-- EVALUATE leaves an empty histogram, a correction within its bound and an offset within half a symbol (R140, R141). -/
theorem evaluate_timing {P : Params} (hP : s.params = P) (hL : 0 < P.loopDiv) (h : TimingWithin least lead elapsed s)
    (elapsed' : Nat) : TimingWithin least lead elapsed' (evaluate P s) := by
  have len : (s.bx.hist.map fun _ => 0).length = s.cfg.nbins := List.length_map _ |>.trans h.hist_length
  have sum : (s.bx.hist.map fun _ => 0).sum ≤ s.bx.zcCount * s.cfg.N + elapsed' := by simp
  have hoff := rawOffset2_range P s.cfg.N (peakFrom s.bx.hist 0 0 0).2 (Nat.zero_lt_of_lt h.phase_lt)
  have hcorr := correction_range P s.cfg.N _ hL hoff.1 hoff.2
  rw [evaluate_cases]
  split
  · exact { h with hist_length := len, hist_elapsed := sum, corr_range := hP ▸ hcorr, timingError_range := hoff }
  · exact { h with hist_length := len, hist_elapsed := sum }

/-- BITX.CORR: on a tick the count of ticks takes over the `N` samples elapsed (R139). -/
theorem bitxCorr_timing {P : Params} (hP : s.params = P) (hL : 0 < P.loopDiv) (hN : 2 ≤ s.cfg.N)
    (h : TimingWithin least lead (sinceTick s + 1) s) : TimingWithin least lead s.bx.phase (bitxCorr P s) := by
  have hsum := h.hist_elapsed
  have hz := h.zcCount_lt
  have hphase := h.phase_lt
  unfold bitxCorr
  split
  · next h0 =>
    have hsince : sinceTick s = s.cfg.N - 1 := by
      unfold sinceTick
      rw [h0, Nat.mod_eq_of_lt (by omega)]
      omega
    split
    · have he := evaluate_timing hP hL h s.bx.phase
      have sum0 : (evaluate P s).bx.hist.sum = 0 := by rw [evaluate_frame]; simp
      have params : (evaluate P s).params = s.params := by rw [evaluate_frame]
      exact { he with
        zcCount_lt := by show 0 < (evaluate P s).params.zcCycle; rw [params]; omega
        hist_elapsed := by show (evaluate P s).bx.hist.sum ≤ _; omega }
    · next hlast =>
      exact { h with
        zcCount_lt := by show s.bx.zcCount + 1 < s.params.zcCycle; rw [hP]; omega
        hist_elapsed := by
          show s.bx.hist.sum ≤ (s.bx.zcCount + 1) * s.cfg.N + s.bx.phase
          rw [Nat.succ_mul]
          omega }
  · next h0 =>
    have hsince : sinceTick s = s.bx.phase - 1 := by
      unfold sinceTick
      rw [show s.bx.phase + s.cfg.N - 1 = s.bx.phase - 1 + s.cfg.N by omega, Nat.add_mod_right, Nat.mod_eq_of_lt (by omega)]
    exact { h with hist_elapsed := by omega }

/-- BITX.DUMP: a due edge is rescheduled by `N` and the pending correction, never to the past (R142 to R145). -/
theorem bitxDump_timing (hL : 0 < s.params.loopDiv) (hN : 2 ≤ s.cfg.N)
    (h : TimingWithin 0 (windowMax s + 1) elapsed s) : TimingWithin 1 (windowMax s + 1) elapsed (bitxDump s) := by
  have hlt := ceilDiv_twice_lt s.cfg.N s.params.loopDiv hL hN
  have hcorr := h.corr_range
  have huntil := h.least_le
  unfold bitxDump
  split
  · exact { h with
      least_le := by show 1 ≤ (s.cfg.N : Int) + s.bx.corrPending; omega
      acc_until := by
        show ((0 : Int).natAbs : Int) + (s.cfg.N + s.bx.corrPending) < windowMax s + 1
        unfold windowMax
        omega
      corr_range := Nat.zero_le _ }
  · next hne => exact { h with least_le := by show 1 ≤ s.bx.untilEvent; omega }

/-- The end of the step: one sample fewer to the next edge, one more since the last tick (R146). -/
theorem endOfStep_timing (hN : 2 ≤ s.cfg.N) (h : TimingWithin 1 (windowMax s + 1) s.bx.phase s) :
    TimingWf (endOfStep s) := by
  have huntil := h.least_le
  have hacc := h.acc_until
  have hphase := h.phase_lt
  have hsince : sinceTick (endOfStep s) = s.bx.phase := by
    show ((s.bx.phase + 1) % s.cfg.N + s.cfg.N - 1) % s.cfg.N = s.bx.phase
    obtain hlt | heq : s.bx.phase + 1 < s.cfg.N ∨ s.bx.phase + 1 = s.cfg.N := by omega
    · rw [Nat.mod_eq_of_lt hlt, show s.bx.phase + 1 + s.cfg.N - 1 = s.bx.phase + s.cfg.N by omega, Nat.add_mod_right,
        Nat.mod_eq_of_lt hphase]
    · rw [heq, Nat.mod_self, Nat.mod_eq_of_lt (by omega)]
      omega
  rw [timingWf_iff, hsince]
  exact { h with
    least_le := by show 0 ≤ s.bx.untilEvent - 1; omega
    acc_until := by show (s.bx.acc.natAbs : Int) + (s.bx.untilEvent - 1) < windowMax s; omega
    phase_lt := Nat.mod_lt _ (by show 0 < s.cfg.N; omega) }

/-- What the synchronizer leaves of the bit extractor and of the timing error leaves the ranges as they are. -/
theorem TimingWithin.congr {t : State} (h : TimingWithin least lead elapsed s) (hp : t.params = s.params)
    (hc : t.cfg = s.cfg) (hb : t.bx = s.bx) (hd : t.diag.timingError = s.diag.timingError) :
    TimingWithin least lead elapsed t := by
  obtain ⟨_, _, _, _, _, _, _, _, _⟩ := h
  constructor <;> simpa only [hp, hc, hb, hd]

end

/-- The initial values of the bit extractor are in range (R51, R268). -/
theorem bxInitial_timing {s : State} (hP : ParamsLegal s.params) (hN : 2 ≤ s.cfg.N) (bx : BitExtractor)
    (hb : s.bx = bxInitial s.params s.cfg bx) (hd : s.diag.timingError = 0) : TimingWf s where
  run_le := by rw [hb]; exact Nat.zero_le _
  until_nonneg := by rw [hb]; show 0 ≤ (s.cfg.N : Int) - 1; omega
  acc_until := by
    rw [hb]
    show ((0 : Int).natAbs : Int) + ((s.cfg.N : Int) - 1) < _
    omega
  phase_lt := by rw [hb]; show 0 < s.cfg.N; omega
  zcCount_lt := by rw [hb]; exact hP.zcCycle_pos
  hist_length := by rw [hb]; exact List.length_replicate
  hist_elapsed := by rw [hb]; simp [bxInitial]
  hist_sum_le := by rw [hb]; simp [bxInitial]
  corr_range := by rw [hb]; exact Nat.zero_le _
  timingError_range := by rw [hd]; omega

end Sys2Proof.Machine
end

