-- ==== Sys2Proof/Proofs/Scope/Sync.lean ====
section
/-! The ranges of the synchronizer, the decoders and the tallies (R34 to R45) over every operation of the synchronizer. -/

namespace Sys2Proof.Machine

/-! ## The decoders and the tallies -/

/-- What a character leaves in range: a decoder that is not selected is as CONSTRUCT left it (R44), the tallies fit their
width (R45), and the timing error is the one given. -/
structure DecoderSound (timingError : Int) (s : State) : Prop where
  ita2_unselected : s.cfg.enc ≠ .ita2 → s.ita2 = State.reset.ita2
  fec_unselected : s.cfg.enc ≠ .ccir476 → s.fec = State.reset.fec
  succ_lt : s.diag.succTally < 2 ^ s.params.tallyW
  fail_lt : s.diag.failTally < 2 ^ s.params.tallyW
  timingError_eq : s.diag.timingError = timingError

section
variable {e : Int} {P : Params} {s : State}

theorem DecoderSound.setIta2 (h : DecoderSound e s) (henc : s.cfg.enc = .ita2) (x : Ita2State) :
    DecoderSound e (s.setIta2 x) := { h with ita2_unselected := fun hne => absurd henc hne }

theorem DecoderSound.setFec (h : DecoderSound e s) (henc : s.cfg.enc = .ccir476) (x : FecState) :
    DecoderSound e (s.setFec x) := { h with fec_unselected := fun hne => absurd henc hne }

theorem DecoderSound.setSync (h : DecoderSound e s) (x : Synchronizer) : DecoderSound e (s.setSync x) := { h with }

theorem DecoderSound.setOut (h : DecoderSound e s) (x : List Event) : DecoderSound e (s.setOut x) := { h with }

theorem DecoderSound.setRet (h : DecoderSound e s) (x : OpResult) : DecoderSound e (s.setRet x) := { h with }

theorem DecoderSound.emitChar (h : DecoderSound e s) (c : Option Scalar) : DecoderSound e (emitChar c s) := by
  rw [emitChar_frame]
  exact h.setOut _

theorem DecoderSound.enterState (h : DecoderSound e s) (q : SyncState) : DecoderSound e (enterState q s) :=
  (h.setSync _).setOut _

theorem DecoderSound.countSuccess (h : DecoderSound e s) (hP : s.params = P) : DecoderSound e (countSuccess P s) :=
  { h with succ_lt := by subst hP; exact satInc_le _ _ }

theorem DecoderSound.countFailure (h : DecoderSound e s) (hP : s.params = P) : DecoderSound e (countFailure P s) :=
  { h with fail_lt := by subst hP; exact satInc_le _ _ }

theorem DecoderSound.fecAlpha (h : DecoderSound e s) (hP : s.params = P) (henc : s.cfg.enc = .ccir476) (d : BitVec 7) :
    DecoderSound e (fecAlpha P d s).1 := by
  unfold Machine.fecAlpha
  split
  · exact h.countFailure hP
  · exact (h.countSuccess hP).setFec henc _

theorem DecoderSound.fecChar (h : DecoderSound e s) (hP : s.params = P) (henc : s.cfg.enc = .ccir476) (d : BitVec 7) :
    DecoderSound e (fecChar P d s).1 := by
  unfold Machine.fecChar
  extract_lets alpha
  cases alpha with
  | true =>
    have cfg : (Machine.fecAlpha P d s).1.cfg = s.cfg := by rw [fecAlpha_frame]
    exact (h.fecAlpha hP henc d).setFec (cfg ▸ henc) _
  | false => exact (h.setFec henc _).setFec henc _

theorem DecoderSound.ita2Char (h : DecoderSound e s) (henc : s.cfg.enc = .ita2) (d : BitVec 5) :
    DecoderSound e (ita2Char P d s).1 := by
  rw [ita2Char_frame]
  exact h.setIta2 henc _

/-- DEC.CHAR touches the selected decoder and the tallies alone (R44, R198). -/
theorem DecoderSound.decChar (h : DecoderSound e s) (hP : s.params = P) (code : RawCode) :
    DecoderSound e (decChar P code s).1 := by
  unfold Machine.decChar
  split
  · next henc => exact h.fecChar hP henc _
  · next henc =>
    split
    · exact (h.countSuccess hP).ita2Char henc _
    · exact h.countFailure hP
  · split
    · exact h.countSuccess hP
    · exact h.countFailure hP

/-- DEC.RST touches the selected decoder alone (R44, R199). -/
theorem DecoderSound.decRst (h : DecoderSound e s) : DecoderSound e (decRst s) := by
  unfold Machine.decRst
  split
  · next henc => exact h.setFec henc _
  · next henc => exact h.setIta2 henc _
  · exact h

theorem DecoderSound.syncClear (h : DecoderSound e s) : DecoderSound e (syncClear s) := (h.setSync _).decRst

theorem DecoderSound.flushOne (h : DecoderSound e s) (hP : s.params = P) (code : RawCode) :
    DecoderSound e (flushOne P s code) := (h.decChar hP code).emitChar _

theorem DecoderSound.flush (h : DecoderSound e s) (hP : s.params = P) : DecoderSound e (flush P s) := by
  have all (codes : List RawCode) (s : State) (h : DecoderSound e s) (hP : s.params = P) :
      DecoderSound e (codes.foldl (Machine.flushOne P) s) := by
    induction codes generalizing s with
    | nil => exact h
    | cons c rest ih =>
      have params : (Machine.flushOne P s c).params = P := by rw [flushOne_frame]; exact hP
      exact ih _ (h.flushOne hP c) params
  exact (all _ s h hP).setSync _

theorem DecoderSound.steadyErr (h : DecoderSound e s) (ok : Bool) : DecoderSound e (steadyErr P ok s) := by
  rw [steadyErr_frame]
  exact { h with }

end

/-! ## The synchronizer -/

/-- The rolling code register keeps its width (R35, R64). -/
theorem shiftIn_fits {T : Nat} {msb code : RawCode} (hT : 0 < T) (hmsb : msb = (1 : RawCode) <<< (T - 1)) (bit : Bool)
    (h : code.toNat < 2 ^ T) : (shiftIn msb bit code).toNat < 2 ^ T := by
  have shifted : (code >>> 1).toNat < 2 ^ T := by
    rw [BitVec.toNat_ushiftRight, Nat.shiftRight_eq_div_pow]
    omega
  have msb_fits : msb.toNat < 2 ^ T := by
    have hpow : 2 ^ (T - 1) < 2 ^ T := Nat.pow_lt_pow_right (by decide) (by omega)
    have hmod := Nat.mod_le (2 ^ (T - 1)) (2 ^ 32)
    have hval : msb.toNat = 2 ^ (T - 1) % 2 ^ 32 := by
      rw [hmsb, BitVec.toNat_shiftLeft, Nat.shiftLeft_eq]
      simp
    omega
  unfold shiftIn
  rw [BitVec.toNat_or]
  refine Nat.or_lt_two_pow shifted ?_
  split
  · exact msb_fits
  · exact Nat.two_pow_pos T

/-- The synchronizer, the decoders and the tallies of a sound constructed state with this timing error. -/
structure SyncSound (timingError : Int) (s : State) : Prop where
  sync : SyncWf s
  decoders : DecoderSound timingError s
  squelched : s.sync.state = .noSignal → s.ita2 = State.reset.ita2 ∧ s.fec = State.reset.fec

/-- The same of a block that is not squelched. -/
structure AwakeSound (timingError : Int) (s : State) : Prop where
  sync : SyncWf s
  decoders : DecoderSound timingError s
  awake : s.sync.state ≠ .noSignal

theorem AwakeSound.syncSound {e : Int} {s : State} (h : AwakeSound e s) : SyncSound e s :=
  ⟨h.sync, h.decoders, fun hq => absurd hq h.awake⟩

/-- The width of the code register as CONSTRUCT derives it (R11, R193). -/
structure WidthWf (P : Params) (s : State) : Prop where
  params_eq : s.params = P
  confirmN_ge : 2 ≤ P.confirmN
  T_pos : 0 < s.cfg.T
  msb_eq : s.cfg.msb = (1 : RawCode) <<< (s.cfg.T - 1)

theorem WidthWf.congr {P : Params} {s t : State} (h : WidthWf P s) (hp : t.params = s.params) (hc : t.cfg = s.cfg) :
    WidthWf P t := ⟨hp ▸ h.params_eq, h.confirmN_ge, hc ▸ h.T_pos, hc ▸ h.msb_eq⟩

section
variable {e : Int} {P : Params} {s : State}

/-- The registers as entry to NoSignal, RESET and CONSTRUCT leave them (R51, R161, R268). -/
theorem squelched_syncWf (hw : WidthWf P s) (count : Nat)
    (hs : s.sync = ⟨.noSignal, true, 0, 0, 0, 0, freeWindow P s.cfg.T count, 0, false⟩) : SyncWf s where
  code_fits := by rw [hs]; exact Nat.two_pow_pos _
  bitCount_lt := by rw [hs]; exact hw.T_pos
  fill_le := by rw [hs]; exact Nat.zero_le _
  recd_length := by rw [hs, hw.params_eq]; exact freeWindow_length ..
  recd_fits := by rw [hs]; exact freeWindow_fits P _ _
  valid_lt := by rw [hs, hw.params_eq]; exact Nat.zero_lt_of_lt hw.confirmN_ge
  valid_pos := by rw [hs]; exact nofun
  err_le := by rw [hs]; exact Nat.zero_le _
  err_armed := by rw [hs]; exact nofun
  resync_state := by rw [hs]; exact fun _ => .inl rfl
  noSignal_resync := by rw [hs]; exact fun _ => rfl
  noSignal_cleared := by rw [hs]; exact fun _ => ⟨rfl, rfl, rfl, rfl, rfl, rfl⟩

/-- SYNC.SQL (R161, R162). After it the block is squelched just when no signal is present. -/
theorem syncSql_sound (hw : WidthWf P s) (present : Bool) (h : SyncSound e s) : SyncSound e (syncSql P present s) := by
  unfold syncSql
  split
  · split
    · exact {
        sync := { h.sync with
          valid_pos := nofun, resync_state := fun _ => .inr rfl, noSignal_resync := nofun, noSignal_cleared := nofun }
        decoders := h.decoders.enterState _
        squelched := nofun }
    · exact h
  · split
    · exact h
    · rw [enterNoSignal_frame]
      exact {
        sync := squelched_syncWf (hw.congr rfl rfl) s.freeCount rfl
        decoders := { h.decoders with ita2_unselected := fun _ => rfl, fec_unselected := fun _ => rfl }
        squelched := fun _ => ⟨rfl, rfl⟩ }

/-- A symbol bit starts with the resync flag consumed, in a block that is not squelched (R163). -/
theorem consumeResync_sound (hw : WidthWf P s) (h : SyncSound e s) :
    AwakeSound e (consumeResync s) ∧ (consumeResync s).sync.resync = false := by
  unfold consumeResync
  split
  · have cleared (q : SyncState) (hq : q = .hunting) (out : List Event) : AwakeSound e { syncClear s with
        sync := { (syncClear s).sync with resync := false, state := q }, out := out } := by
      subst hq
      refine ⟨?_, { h.decoders.syncClear with }, nofun⟩
      rw [syncClear_frame]
      exact { h.sync with
        code_fits := Nat.two_pow_pos _
        bitCount_lt := hw.T_pos
        fill_le := Nat.zero_le _
        valid_lt := Nat.zero_lt_of_lt h.sync.valid_lt
        valid_pos := nofun
        err_le := Nat.zero_le _
        err_armed := fun _ => Nat.zero_le _
        resync_state := nofun
        noSignal_resync := nofun
        noSignal_cleared := nofun }
    dsimp only
    split
    · next hq => exact ⟨cleared _ hq _, rfl⟩
    · exact ⟨cleared .hunting rfl _, rfl⟩
  · next hr => exact ⟨⟨h.sync, h.decoders, fun hq => hr (h.sync.noSignal_resync hq)⟩, by simpa using hr⟩

/-- A symbol bit in Hunting (R165, R166). -/
theorem huntBit_sound (hw : WidthWf P s) (bit : Bool) (h : AwakeSound e s) (hr : s.sync.resync = false) :
    AwakeSound e (huntBit bit s) := by
  have shifted := shiftIn_fits hw.T_pos hw.msb_eq bit h.sync.code_fits
  have hcn : 1 < s.params.confirmN := hw.params_eq ▸ hw.confirmN_ge
  simp only [huntBit]
  split
  · exact {
      sync := { h.sync with
        code_fits := Nat.two_pow_pos _
        bitCount_lt := hw.T_pos
        fill_le := Nat.min_le_left _ _
        recd_length := List.length_set.trans h.sync.recd_length
        recd_fits := fun c hc => (List.mem_or_eq_of_mem_set hc).elim (h.sync.recd_fits c) (fun heq => heq ▸ shifted)
        valid_lt := hcn
        valid_pos := fun _ => Nat.one_pos
        resync_state := fun hr' => absurd (hr.symm.trans hr') nofun
        noSignal_resync := nofun
        noSignal_cleared := nofun }
      decoders := ((h.decoders.setSync _).setSync _).enterState _
      awake := nofun }
  · exact {
      sync := { h.sync with
        code_fits := shifted, fill_le := Nat.min_le_left _ _, noSignal_cleared := fun hq => absurd hq h.awake }
      decoders := h.decoders.setSync _
      awake := h.awake }

/-- A symbol bit in Confirming (R167 to R169). -/
theorem confirmBit_sound (hw : WidthWf P s) (bit : Bool) (h : AwakeSound e s) (hr : s.sync.resync = false) :
    AwakeSound e (confirmBit P bit s) := by
  have shifted := shiftIn_fits hw.T_pos hw.msb_eq bit h.sync.code_fits
  have notArmed {p : Prop} : s.sync.resync = true → p := fun hr' => absurd (hr.symm.trans hr') nofun
  have hbit := h.sync.bitCount_lt
  have hvalid := h.sync.valid_lt
  have hP := hw.params_eq
  have recorded (c : RawCode) (hc : c ∈ s.sync.recd.set s.sync.validCount (shiftIn s.cfg.msb bit s.sync.code)) :
      c.toNat < 2 ^ s.cfg.T :=
    (List.mem_or_eq_of_mem_set hc).elim (h.sync.recd_fits c) (fun heq => heq ▸ shifted)
  simp only [confirmBit, confirmGroup]
  split
  · split
    · split
      · refine ⟨?sync, .enterState (.flush ?decoders ?params) _, nofun⟩
        case params => exact hP
        case decoders => exact (h.decoders.setSync _).setSync _
        rw [flush_frame]
        exact { h.sync with
          code_fits := Nat.two_pow_pos _
          bitCount_lt := hw.T_pos
          recd_length := List.length_set.trans h.sync.recd_length
          recd_fits := recorded
          valid_lt := Nat.zero_lt_of_lt hvalid
          valid_pos := nofun
          resync_state := notArmed
          noSignal_resync := nofun
          noSignal_cleared := nofun }
      · next hlast =>
        exact {
          sync := { h.sync with
            code_fits := Nat.two_pow_pos _
            bitCount_lt := hw.T_pos
            recd_length := List.length_set.trans h.sync.recd_length
            recd_fits := recorded
            valid_lt := by
              have : s.sync.validCount + 1 ≠ P.confirmN := hlast
              show s.sync.validCount + 1 < s.params.confirmN
              rw [hP] at hvalid ⊢
              omega
            valid_pos := fun _ => Nat.succ_pos _
            noSignal_cleared := fun hq => absurd hq h.awake }
          decoders := (h.decoders.setSync _).setSync _
          awake := h.awake }
    · exact {
        sync := { h.sync with
          code_fits := Nat.two_pow_pos _
          bitCount_lt := hw.T_pos
          valid_pos := nofun
          err_armed := nofun
          resync_state := fun _ => .inr rfl
          noSignal_resync := nofun
          noSignal_cleared := nofun }
        decoders := ((h.decoders.setSync _).setSync _).setSync _ |>.enterState _
        awake := nofun }
  · next hfull =>
    exact {
      sync := { h.sync with
        code_fits := shifted
        bitCount_lt := by
          have : s.sync.bitCount + 1 ≠ s.cfg.T := hfull
          show s.sync.bitCount + 1 < s.cfg.T
          omega
        noSignal_cleared := fun hq => absurd hq h.awake }
      decoders := h.decoders.setSync _
      awake := h.awake }

/-- The end of a group: the register is empty again (R170). -/
def groupDone (s : State) : State := s.setSync { s.sync with code := 0, bitCount := 0 }

/-- STEADY_ERR keeps the ranges, seen at the end of the group (R171). -/
theorem steadyErr_syncWf (hP : s.params = P) (ok : Bool) (hr : s.sync.resync = false) (hq : s.sync.state ≠ .noSignal)
    (h : SyncWf (groupDone s)) : SyncWf (groupDone (steadyErr P ok s)) ∧ (steadyErr P ok s).sync.state ≠ .noSignal := by
  have herr : s.sync.errCount ≤ P.errLimit := hP ▸ h.err_armed hr
  have notArmed {p : Prop} : s.sync.resync = true → p := fun hr' => absurd (hr.symm.trans hr') nofun
  simp only [steadyErr]
  split
  · split
    · refine ⟨{ h with err_le := ?_, err_armed := fun _ => ?_, noSignal_cleared := fun hn => absurd hn hq }, hq⟩
      · show s.sync.errCount - 1 ≤ s.params.errLimit + 1
        rw [hP]
        omega
      · show s.sync.errCount - 1 ≤ s.params.errLimit
        rw [hP]
        omega
    · exact ⟨h, hq⟩
  · split
    · refine ⟨{ h with
        valid_pos := nofun
        err_le := ?_
        err_armed := nofun
        resync_state := fun _ => .inr rfl
        noSignal_resync := nofun
        noSignal_cleared := nofun }, nofun⟩
      show s.sync.errCount + 1 ≤ s.params.errLimit + 1
      rw [hP]
      omega
    · next hle =>
      have hle' : s.sync.errCount + 1 ≤ P.errLimit := not_lt.mp hle
      refine ⟨{ h with err_le := ?_, err_armed := fun _ => ?_, noSignal_cleared := fun hn => absurd hn hq }, hq⟩
      · show s.sync.errCount + 1 ≤ s.params.errLimit + 1
        rw [hP]
        omega
      · show s.sync.errCount + 1 ≤ s.params.errLimit
        rw [hP]
        exact hle'

/-- A completed group in SteadyState (R170 to R172). -/
theorem steadyGroup_sound (hP : s.params = P) (h : AwakeSound e (groupDone s)) (hr : s.sync.resync = false) :
    AwakeSound e (steadyGroup P s) := by
  have decoders : DecoderSound e s := { h.decoders with }
  have decoded : SyncWf (groupDone (emitChar (decChar P s.sync.code s).2.1 (decChar P s.sync.code s).1))
      ∧ (emitChar (decChar P s.sync.code s).2.1 (decChar P s.sync.code s).1).sync = s.sync
      ∧ (emitChar (decChar P s.sync.code s).2.1 (decChar P s.sync.code s).1).params = P := by
    rw [emitChar_frame, decChar_frame]
    exact ⟨{ h.sync with }, rfl, hP⟩
  obtain ⟨hwf, hsync, hparams⟩ := decoded
  obtain ⟨done, awake⟩ := steadyErr_syncWf hparams (decChar P s.sync.code s).2.2 (by rw [hsync]; exact hr)
    (by rw [hsync]; exact h.awake) hwf
  have hdec := ((decoders.decChar hP s.sync.code).emitChar (decChar P s.sync.code s).2.1).steadyErr
    (P := P) (decChar P s.sync.code s).2.2
  simp only [steadyGroup]
  split
  · exact ⟨{ done with noSignal_cleared := fun hq => absurd hq awake }, (hdec.setSync _).setSync _, awake⟩
  · exact ⟨done, hdec.setSync _, awake⟩

/-- A symbol bit in SteadyState (R170 to R172). -/
theorem steadyBit_sound (hw : WidthWf P s) (bit : Bool) (h : AwakeSound e s) (hr : s.sync.resync = false) :
    AwakeSound e (steadyBit P bit s) := by
  have shifted := shiftIn_fits hw.T_pos hw.msb_eq bit h.sync.code_fits
  have hbit := h.sync.bitCount_lt
  simp only [steadyBit]
  split
  · exact h
  · split
    · refine steadyGroup_sound hw.params_eq ?_ hr
      exact {
        sync := { h.sync with
          code_fits := Nat.two_pow_pos _
          bitCount_lt := hw.T_pos
          noSignal_cleared := fun hq => absurd hq h.awake }
        decoders := { h.decoders with }
        awake := h.awake }
    · next hfull =>
      exact {
        sync := { h.sync with
          code_fits := shifted
          bitCount_lt := by
            have : s.sync.bitCount + 1 ≠ s.cfg.T := hfull
            show s.sync.bitCount + 1 < s.cfg.T
            omega
          noSignal_cleared := fun hq => absurd hq h.awake }
        decoders := (h.decoders.setSync _).setSync _
        awake := h.awake }

/-- SYNC.BIT (R163 to R172). -/
theorem syncBit_sound (hw : WidthWf P s) (bit : Bool) (h : SyncSound e s) : SyncSound e (syncBit P bit s) := by
  obtain ⟨hc, hr⟩ := consumeResync_sound hw h
  have hwc : WidthWf P (consumeResync s) := hw.congr (by rw [consumeResync_frame]) (by rw [consumeResync_frame])
  simp only [syncBit]
  split
  · exact hc.syncSound
  · exact (huntBit_sound hwc bit hc hr).syncSound
  · exact (confirmBit_sound hwc bit hc hr).syncSound
  · exact (steadyBit_sound hwc bit hc hr).syncSound

/-- The synchronizer's part of a sample step (R160). -/
theorem syncStep_sound (hw : WidthWf P s) (h : SyncSound e s) : SyncSound e (syncStep P s) := by
  have hsql := syncSql_sound hw s.bx.signalPresent h
  have hwsql : WidthWf P (syncSql P s.bx.signalPresent s) := hw.congr (by rw [syncSql_frame]) (by rw [syncSql_frame])
  simp only [syncStep]
  split
  · exact syncBit_sound hwsql _ hsql
  · exact hsql

/-- The symbol bits of a frame, one after another (R64; log 2). -/
theorem receiveBits_sound (bits : List Bool) (hw : WidthWf P s) (h : SyncSound e s) :
    SyncSound e (bits.foldl (receiveBit P) s) := by
  induction bits generalizing s with
  | nil => exact h
  | cons b rest ih =>
    have hwsql : WidthWf P (syncSql P true s) := hw.congr (by rw [syncSql_frame]) (by rw [syncSql_frame])
    exact ih (hw.congr (by rw [receiveBit_frame]) (by rw [receiveBit_frame]))
      (syncBit_sound hwsql b (syncSql_sound hw true h))

end

end Sys2Proof.Machine
end

