-- ==== Sys2Proof/Proofs/Scope/Sound.lean ====
section
/-! Every step keeps the invariant Sound: each kind of input by the ranges of the groups it moves. -/

namespace Sys2Proof.Machine

/-! ## Taking Sound apart and putting it together -/

section
variable {s : State}

/-- A constructed state is sound when each group of it is. -/
theorem Sound.of_constructed {e : Int} (hparams : ParamsLegal s.params) (hconstructed : s.ctl.constructed = true)
    (hcfg : ConfigWf s.params s.cfg) (hnumbers : NumbersWf s) (htiming : TimingWf s) (hsync : SyncSound e s) : Sound s where
  params_legal := hparams
  numbers := hnumbers
  running_constructed := fun _ => hconstructed
  tallies := ⟨hsync.decoders.succ_lt, hsync.decoders.fail_lt⟩
  constructed := fun _ => ⟨hcfg, htiming, hsync.sync,
    ⟨hsync.decoders.ita2_unselected, hsync.decoders.fec_unselected, hsync.squelched⟩⟩
  unconstructed := fun h => absurd (hconstructed.symm.trans h) nofun

theorem Sound.configWf (h : Sound s) (hc : s.ctl.constructed = true) : ConfigWf s.params s.cfg := (h.constructed hc).1

theorem Sound.timingWf (h : Sound s) (hc : s.ctl.constructed = true) : TimingWf s := (h.constructed hc).2.1

theorem Sound.syncSound (h : Sound s) (hc : s.ctl.constructed = true) : SyncSound s.diag.timingError s := by
  obtain ⟨-, -, hsync, hdec⟩ := h.constructed hc
  exact ⟨hsync, ⟨hdec.ita2_unselected, hdec.fec_unselected, h.tallies.1, h.tallies.2, rfl⟩, hdec.noSignal_cleared⟩

theorem widthWf_of_config (hparams : ParamsLegal s.params) (hcfg : ConfigWf s.params s.cfg) : WidthWf s.params s :=
  ⟨rfl, hparams.confirmN_ge, hcfg.T_pos, hcfg.msb_eq⟩

theorem Sound.widthWf (h : Sound s) (hc : s.ctl.constructed = true) : WidthWf s.params s :=
  widthWf_of_config h.params_legal (h.configWf hc)

/-- Sound says nothing of the port values, the result code, the events, the inbox and the returned value, and of
`ctl.running` only that it takes a constructed block. -/
theorem Sound.with_host (h : Sound s) (ports : ConfigPorts) (ctl : Control) (out : List Event) (inbox : List Input)
    (ret : OpResult) (hc : ctl.constructed = s.ctl.constructed) (hr : ctl.running = true → ctl.constructed = true) :
    Sound { s with ports := ports, ctl := ctl, out := out, inbox := inbox, ret := ret } where
  params_legal := h.params_legal
  numbers := { h.numbers with }
  running_constructed := hr
  tallies := h.tallies
  constructed := fun ht => by
    obtain ⟨hcfg, htiming, hsync, hdec⟩ := h.constructed (hc ▸ ht)
    exact ⟨hcfg, { htiming with }, { hsync with }, { hdec with }⟩
  unconstructed := fun ht => h.unconstructed (hc ▸ ht)

theorem raise_sound (e : ErrCode) (h : Sound s) : Sound (raise e s) :=
  h.with_host s.ports { s.ctl with err := e } s.out s.inbox s.ret rfl h.running_constructed

theorem take_sound (rest : List Input) (h : Sound s) : Sound (take rest s) :=
  h.with_host s.ports s.ctl [] rest s.ret rfl h.running_constructed

theorem idle_sound (h : Sound s) : Sound (idle s) :=
  h.with_host s.ports s.ctl [] s.inbox s.ret rfl h.running_constructed

theorem drivePorts_sound (p : ConfigPorts) (h : Sound s) : Sound (drivePorts p s) :=
  h.with_host p s.ctl s.out s.inbox s.ret rfl h.running_constructed

theorem setRet_sound (r : OpResult) (h : Sound s) : Sound (s.setRet r) :=
  h.with_host s.ports s.ctl s.out s.inbox r rfl h.running_constructed

/-! ## START, STOP, RESET, CONSTRUCT -/

/-- START (R267). -/
theorem start_sound (h : Sound s) : Sound (start s) := by
  unfold start
  split
  · exact raise_sound _ h
  · next hc =>
    split
    · exact raise_sound _ h
    · exact h.with_host s.ports { s.ctl with running := true, err := .ok } s.out s.inbox s.ret rfl
        (fun _ => by simpa using hc)

/-- STOP (R271). -/
theorem stop_sound (h : Sound s) : Sound (stop s) :=
  h.with_host s.ports { s.ctl with running := false, err := .ok } s.out s.inbox s.ret rfl nofun

/-- RESET_ALL leaves every group at its reset value (R51, R268). -/
theorem resetAll_sound (hparams : ParamsLegal s.params) (hcfg : ConfigWf s.params s.cfg)
    (hbank : BankWf s.params s.filt) (ctl : Control) (hc : ctl.constructed = true) :
    Sound ((resetAll s.params s).setCtl ctl) := by
  have hw := widthWf_of_config hparams hcfg
  have hcleared := filtRstAll_bankWf hbank
  rw [resetAll_frame]
  refine .of_constructed (e := 0) hparams hc hcfg ⟨hcleared, datum_const ..⟩
    (bxInitial_timing hparams hcfg.N_ge s.bx rfl rfl) ?_
  exact {
    sync := squelched_syncWf (hw.congr rfl rfl) s.freeCount rfl
    decoders := ⟨fun _ => rfl, fun _ => rfl, Nat.two_pow_pos _, Nat.two_pow_pos _, rfl⟩
    squelched := fun _ => ⟨rfl, rfl⟩ }

/-- RESET (R268). -/
theorem resetCommand_sound (h : Sound s) : Sound (resetCommand s.params s) := by
  unfold resetCommand
  split
  · exact raise_sound _ h
  · next hc =>
    have hc' : s.ctl.constructed = true := by simpa using hc
    have ctl : (resetAll s.params s).ctl = s.ctl := by rw [resetAll_frame]
    exact resetAll_sound h.params_legal (h.configWf hc') h.numbers.sections _ (by rw [ctl]; exact hc')

/-- What passes the checks of CONSTRUCT is a configuration it can latch (R262 to R266). -/
theorem configWf_of_constructCheck {P : Params} {c : Latched} (h : constructCheck P s = .ok c) : ConfigWf P c := by
  unfold constructCheck at h
  split at h
  · cases h
  · split at h
    · cases h
    · next d hd =>
      obtain ⟨spec, -, rfl⟩ := Option.map_eq_some_iff.mp hd
      split at h
      · cases h
      · next enc _ =>
        split at h
        · next hcombo =>
          dsimp only at h
          split at h
          · next hok =>
            cases h
            exact ⟨s.ports, spec, enc, rfl, hcombo, hok⟩
          · cases h
        · cases h

/-- CONSTRUCT (R262). -/
theorem construct_sound (h : Sound s) : Sound (construct s.params s) := by
  unfold construct
  split
  · exact raise_sound _ h
  · next c hc =>
    have bank : BankWf s.params (configureFilters s.params (s.setCfg c)).filt := configureFilters_bankWf h.numbers.sections
    exact resetAll_sound (s := configureFilters s.params (s.setCfg c)) h.params_legal (configWf_of_constructCheck hc) bank
      ⟨true, false, .ok⟩ rfl

theorem construct_params (P : Params) (s : State) : (construct P s).params = s.params := by
  unfold construct
  split
  · rfl
  · show ((resetAll P _).setCtl _).params = _
    rw [resetAll_frame]
    rfl

theorem start_params (s : State) : (start s).params = s.params := by
  unfold start
  split
  · rfl
  · split <;> rfl

theorem resetCommand_params (P : Params) (s : State) : (resetCommand P s).params = s.params := by
  unfold resetCommand
  split
  · rfl
  · show (raise .ok (resetAll P s)).params = _
    rw [resetAll_frame]
    rfl

/-! ## The sample step -/

/-- The bit extractor's operations of SAMPLE_STEP (R270). -/
def extractBit (P : Params) (x : Sample) (s : State) : State :=
  bitxDump (bitxCorr P (bitxZc P (bitxAcc (bitxLevel P x (s.setOut [])))))

theorem sampleStep_eq (P : Params) (x : Sample) (s : State) :
    sampleStep P x s = endOfStep (syncStep P (extractBit P x s)) := rfl

theorem extractBit_frame (P : Params) (x : Sample) (s : State) : extractBit P x s = { s with
    filt := (bitxLevel P x s).filt
    bx := { (extractBit P x s).bx with avg := (bitxLevel P x s).bx.avg, phase := s.bx.phase }
    diag := { s.diag with timingError := (extractBit P x s).diag.timingError }
    out := (extractBit P x s).out } := by
  unfold extractBit
  rw [bitxDump_frame, bitxCorr_frame, bitxZc_frame]
  rfl

/-- The bit extractor's operations leave the schedule ahead of this sample and the window one sample over (R145). -/
theorem extractBit_timing (x : Sample) (hparams : ParamsLegal s.params) (hN : 2 ≤ s.cfg.N) (h : TimingWf s) :
    TimingWithin 1 (windowMax s + 1) s.bx.phase (extractBit s.params x s) := by
  have start : TimingWithin 0 (windowMax s) (sinceTick s) (s.setOut []) := { (timingWf_iff s).mp h with }
  have counted := bitxZc_timing s.params (bitxAcc_timing (bitxLevel_timing s.params x start))
  unfold extractBit
  generalize hz : bitxZc s.params (bitxAcc (bitxLevel s.params x (s.setOut []))) = z at counted
  obtain ⟨params, cfg, phase⟩ : z.params = s.params ∧ z.cfg = s.cfg ∧ z.bx.phase = s.bx.phase := by
    rw [← hz, bitxZc_frame]
    exact ⟨rfl, rfl, rfl⟩
  have since : sinceTick z = sinceTick s := by unfold sinceTick; rw [cfg, phase]
  have corrected := bitxCorr_timing params hparams.loopDiv_pos (cfg ▸ hN) (since ▸ counted)
  generalize hw : bitxCorr s.params z = w at corrected
  obtain ⟨params', cfg'⟩ : w.params = s.params ∧ w.cfg = s.cfg := by
    rw [← hw, bitxCorr_frame]
    exact ⟨params, cfg⟩
  have window : windowMax w = windowMax s := by unfold windowMax; rw [cfg', params']
  rw [phase, ← window] at corrected
  exact window ▸ bitxDump_timing (params' ▸ hparams.loopDiv_pos) (cfg' ▸ hN) corrected

theorem syncSql_bankWf {P : Params} (present : Bool) (h : BankWf P s.filt) : BankWf P (syncSql P present s).filt := by
  unfold syncSql
  split
  · split <;> exact h
  · split
    · exact h
    · rw [enterNoSignal_frame]
      exact filtRstAll_bankWf h

theorem syncStep_bankWf {P : Params} (h : BankWf P s.filt) : BankWf P (syncStep P s).filt := by
  have hsql := syncSql_bankWf s.bx.signalPresent h
  simp only [syncStep]
  split
  · rw [syncBit_frame]
    exact hsql
  · exact hsql

/-- SAMPLE_STEP in a constructed block (R270). -/
theorem sampleStep_sound (x : Sample) (h : Sound s) (hc : s.ctl.constructed = true) :
    Sound (sampleStep s.params x s) := by
  have hN := (h.configWf hc).N_ge
  have timing := extractBit_timing x h.params_legal hN (h.timingWf hc)
  have bank : BankWf s.params (extractBit s.params x s).filt := by
    rw [extractBit_frame]
    exact bitxLevel_bankWf x h.numbers.sections
  have avg : IsDatum s.params (extractBit s.params x s).bx.avg := by
    rw [extractBit_frame]
    exact bitxLevel_avg_datum ..
  have sync : SyncSound (extractBit s.params x s).diag.timingError (extractBit s.params x s) := by
    have hs := h.syncSound hc
    rw [extractBit_frame]
    exact ⟨{ hs.sync with }, { hs.decoders with timingError_eq := rfl }, hs.squelched⟩
  obtain ⟨params, cfg, ctl, phase⟩ : (extractBit s.params x s).params = s.params ∧ (extractBit s.params x s).cfg = s.cfg
      ∧ (extractBit s.params x s).ctl = s.ctl ∧ (extractBit s.params x s).bx.phase = s.bx.phase := by
    rw [extractBit_frame]
    exact ⟨rfl, rfl, rfl, rfl⟩
  rw [sampleStep_eq]
  generalize extractBit s.params x s = b at *
  have synced := syncStep_sound ((h.widthWf hc).congr params cfg) sync
  have bank' := syncStep_bankWf bank
  obtain ⟨params', cfg', ctl', bx'⟩ : (syncStep s.params b).params = s.params ∧ (syncStep s.params b).cfg = s.cfg
      ∧ (syncStep s.params b).ctl = s.ctl ∧ (syncStep s.params b).bx = b.bx := by
    rw [syncStep_frame]
    exact ⟨params, cfg, ctl, rfl⟩
  have timing' := timing.congr (params'.trans params.symm) (cfg'.trans cfg.symm) bx' synced.decoders.timingError_eq
  generalize syncStep s.params b = t at *
  have window : windowMax t = windowMax s := by unfold windowMax; rw [cfg', params']
  have phase' : t.bx.phase = s.bx.phase := by rw [bx', phase]
  rw [← window, ← phase'] at timing'
  have ends := endOfStep_timing (cfg' ▸ hN) timing'
  rw [← params'] at bank' avg
  rw [← bx'] at avg
  refine .of_constructed (e := b.diag.timingError) (params' ▸ h.params_legal) (ctl' ▸ hc)
    (params' ▸ cfg' ▸ h.configWf hc) ⟨bank', avg⟩ ends ?_
  exact ⟨{ synced.sync with }, { synced.decoders with }, synced.squelched⟩

/-- SAMPLE (R269). -/
theorem sample_sound (x : Sample) (h : Sound s) : Sound (sample s.params x s) := by
  unfold sample
  split
  · exact raise_sound _ h
  · next hc =>
    split
    · exact raise_sound _ h
    · exact raise_sound _ (sampleStep_sound x h (by simpa using hc))

theorem sample_params (P : Params) (x : Sample) (s : State) : (sample P x s).params = s.params := by
  unfold sample
  split
  · rfl
  · split
    · rfl
    · show (raise .ok (sampleStep P x s)).params = _
      rw [sampleStep_frame]
      rfl

/-! ## Frames and code words -/

theorem receiveBits_bankWf {P : Params} (bits : List Bool) (h : BankWf P s.filt) :
    BankWf P (bits.foldl (receiveBit P) s).filt := by
  induction bits generalizing s with
  | nil => exact h
  | cons b rest ih =>
    refine ih ?_
    show BankWf P (syncBit P b (syncSql P true s)).filt
    rw [syncBit_frame]
    exact syncSql_bankWf true h

/-- The bits of a frame (log 2). -/
theorem receiveCode_sound (n : Nat) (code : RawCode) (h : Sound s) : Sound (receiveCode s.params n code s) := by
  unfold receiveCode
  split
  · next hrun =>
    obtain ⟨hc, -⟩ := Bool.and_eq_true_iff.mp hrun
    have hs := h.syncSound hc
    have start : SyncSound s.diag.timingError (s.setOut []) := ⟨{ hs.sync with }, { hs.decoders with }, hs.squelched⟩
    have synced := receiveBits_sound (s := s.setOut []) (arrivalBits n code) ((h.widthWf hc).congr rfl rfl) start
    have bank : BankWf s.params ((arrivalBits n code).foldl (receiveBit s.params) (s.setOut [])).filt :=
      receiveBits_bankWf (s := s.setOut []) _ h.numbers.sections
    have timing := (timingWf_iff s).mp (h.timingWf hc)
    obtain ⟨params, cfg, ctl, bx⟩ :
        ((arrivalBits n code).foldl (receiveBit s.params) (s.setOut [])).params = s.params
        ∧ ((arrivalBits n code).foldl (receiveBit s.params) (s.setOut [])).cfg = s.cfg
        ∧ ((arrivalBits n code).foldl (receiveBit s.params) (s.setOut [])).ctl = s.ctl
        ∧ ((arrivalBits n code).foldl (receiveBit s.params) (s.setOut [])).bx = s.bx := by
      rw [receiveBits_frame]
      exact ⟨rfl, rfl, rfl, rfl⟩
    generalize (arrivalBits n code).foldl (receiveBit s.params) (s.setOut []) = t at *
    have timing' := timing.congr params cfg bx synced.decoders.timingError_eq
    have window : windowMax t = windowMax s := by unfold windowMax; rw [cfg, params]
    have since : sinceTick t = sinceTick s := by unfold sinceTick; rw [cfg, bx]
    rw [← window, ← since] at timing'
    have avg := h.numbers.avg
    rw [← params] at bank avg
    exact .of_constructed (params ▸ h.params_legal) (ctl ▸ hc) (params ▸ cfg ▸ h.configWf hc) ⟨bank, bx ▸ avg⟩
      ((timingWf_iff t).mpr timing') synced
  · exact h

/-- A character of the selected decoder in a block that is not squelched keeps the rest of the state (R44). -/
theorem Sound.of_decoder {t : State} (h : Sound s) (hc : s.ctl.constructed = true) (hq : s.sync.state ≠ .noSignal)
    (hframe : t = { s with ita2 := t.ita2, fec := t.fec, diag := t.diag })
    (hdec : DecoderSound s.diag.timingError t) : Sound t := by
  obtain ⟨hcfg, htiming, hsync, -⟩ := h.constructed hc
  have range := htiming.timingError_range
  rw [← hdec.timingError_eq] at range
  rw [hframe] at hdec ⊢
  exact .of_constructed h.params_legal hc hcfg { h.numbers with }
    { htiming with timingError_range := range }
    ⟨{ hsync with }, hdec, fun hn => absurd hn hq⟩

/-- A code word moves the decoder at work and no other (R44, R304; log 3). -/
theorem codeWord_sound {enc : Encoding} {call : State → State} (h : Sound s)
    (hcall : s.ctl.constructed = true → s.cfg.enc = enc → s.sync.state ≠ .noSignal → Sound (call s)) :
    Sound (codeWord enc call s) := by
  by_cases hd : decoding enc s = true
  · rw [codeWord_decoding call hd]
    obtain ⟨hc, -, henc, hq⟩ := (decoding_iff enc s).mp hd
    exact hcall hc henc hq
  · rw [codeWord_idle call hd]
    exact h

theorem fecWord_sound (d : BitVec 7) (h : Sound s) : Sound (fecWord d s) :=
  codeWord_sound h fun hc henc hq => by
    have hframe := fecChar_frame s.params d s
    refine setRet_sound _ (h.of_decoder (t := (fecChar s.params d s).1) hc hq ?_
      ((h.syncSound hc).decoders.fecChar rfl henc d))
    rw [hframe]

theorem ita2Word_sound (d : BitVec 5) (h : Sound s) : Sound (ita2Word d s) :=
  codeWord_sound h fun hc henc hq => by
    have hframe := ita2Char_frame s.params d s
    refine setRet_sound _ (h.of_decoder (t := (ita2Char s.params d s).1) hc hq ?_
      ((h.syncSound hc).decoders.ita2Char henc d))
    rw [hframe]

theorem asciiWord_sound (d : DataCode) (h : Sound s) : Sound (asciiWord d s) :=
  codeWord_sound h fun _ _ _ => setRet_sound _ h

theorem receiveCode_params (P : Params) (n : Nat) (code : RawCode) (s : State) :
    (receiveCode P n code s).params = s.params := by rw [receiveCode_frame]

theorem codeWord_params {enc : Encoding} {call : State → State} (h : (call s).params = s.params) :
    (codeWord enc call s).params = s.params := by
  unfold codeWord
  split
  · exact h
  · rfl

theorem fecWord_params (d : BitVec 7) (s : State) : (fecWord d s).params = s.params :=
  codeWord_params (by show (fecChar s.params d s).1.params = _; rw [fecChar_frame])

theorem ita2Word_params (d : BitVec 5) (s : State) : (ita2Word d s).params = s.params :=
  codeWord_params (by show (ita2Char s.params d s).1.params = _; rw [ita2Char_frame])

theorem asciiWord_params (d : DataCode) (s : State) : (asciiWord d s).params = s.params := codeWord_params rfl

/-! ## One input -/

/-- The outcome is a sound state with the same parameters, or no state. -/
def KeepsSound (s : State) (o : Host.Outcome State Fault Refusal) : Prop :=
  ∀ t, o = .next t → Sound t ∧ t.params = s.params

theorem keepsSound_next {t : State} (ht : Sound t) (hp : t.params = s.params) : KeepsSound s (.next t) := by
  rintro _ ⟨⟩
  exact ⟨ht, hp⟩

theorem keepsSound_refused (r : Refusal) : KeepsSound s (.refused r) := by
  intro t ht
  cases ht

/-- Every command word (R82). -/
theorem decodeCommand_keepsSound (w : RawCode) (h : Sound s) : KeepsSound s (exec (decodeCommand w) s) := by
  unfold decodeCommand
  dsimp only
  split
  case h_1 => exact keepsSound_next (raise_sound _ h) rfl
  case h_2 => exact keepsSound_next (construct_sound h) (construct_params ..)
  case h_3 => exact keepsSound_next (start_sound h) (start_params s)
  case h_4 => exact keepsSound_next (stop_sound h) rfl
  case h_5 => exact keepsSound_next (resetCommand_sound h) (resetCommand_params ..)
  case h_6 => exact keepsSound_next (sample_sound _ h) (sample_params ..)
  all_goals exact keepsSound_next (raise_sound .badCommand h) rfl

theorem receive_keepsSound (n : Nat) (code : RawCode) (h : Sound s) :
    KeepsSound s (.next (receiveCode s.params n code s)) :=
  keepsSound_next (receiveCode_sound n code h) (receiveCode_params ..)

/-- Every valid frame (R84 to R89). -/
theorem frameRow_keepsSound (spec : FramingSpec) (data : DataCode) (h : Sound s) :
    KeepsSound s (exec (frameRow spec data) s) := by
  cases spec with
  | async d st efr =>
    rw [exec_frameRow_async]
    exact receive_keepsSound _ _ h
  | fourOfSeven =>
    rw [exec_frameRow_group]
    exact receive_keepsSound _ _ h

/-- Every word of a frame space, valid or not (R93). -/
theorem runWord_frame_keepsSound (spec : FramingSpec) (w : RawCode) (h : Sound s) :
    KeepsSound s (runWord (.frame spec) w s) := by
  unfold runWord decode decodeFrame
  split
  · next i hi =>
    split at hi
    · dsimp only at hi
      split at hi
      · cases hi
        exact frameRow_keepsSound _ _ h
      · cases hi
    · cases hi
  · exact keepsSound_refused _
  · exact receive_keepsSound _ _ h

/-- A word of a space in which every word that fits is an instruction. -/
theorem runWord_keepsSound {sp : Space} {w : RawCode} {i : Instr}
    (hdecode : decode sp w = if w.toNat < 2 ^ sp.width then .ok i else .error .wordTooWide)
    (h : KeepsSound s (exec i s)) : KeepsSound s (runWord sp w s) := by
  unfold runWord
  rw [hdecode]
  by_cases hfit : w.toNat < 2 ^ sp.width
  · rw [if_pos hfit]
    exact h
  · rw [if_neg hfit]
    exact keepsSound_refused _

theorem runWord_sound (sp : Space) (w : RawCode) (h : Sound s) : KeepsSound s (runWord sp w s) := by
  cases sp with
  | command => exact runWord_keepsSound rfl (decodeCommand_keepsSound w h)
  | frame spec => exact runWord_frame_keepsSound spec w h
  | ita2 =>
    refine runWord_keepsSound rfl ?_
    rw [exec_decodeIta2]
    exact keepsSound_next (ita2Word_sound _ h) (ita2Word_params ..)
  | ccir476 =>
    refine runWord_keepsSound rfl ?_
    rw [exec_decodeCcir476]
    exact keepsSound_next (fecWord_sound _ h) (fecWord_params ..)
  | ascii7 => exact runWord_keepsSound rfl (keepsSound_next (asciiWord_sound _ h) (asciiWord_params ..))
  | ascii8 => exact runWord_keepsSound rfl (keepsSound_next (asciiWord_sound _ h) (asciiWord_params ..))

end

/-- Settles O22, by the kind of the oldest entry of the inbox. -/
theorem stepKeepsSound : Obligations.StepKeepsSound := by
  intro s t hs ht
  unfold step runInbox at ht
  split at ht
  · cases ht
    exact ⟨idle_sound hs, rfl⟩
  · next p rest _ =>
    cases ht
    exact ⟨drivePorts_sound p (take_sound rest hs), rfl⟩
  · next sp w rest _ => exact runWord_sound sp w (take_sound rest hs) t ht

end Sys2Proof.Machine
end

