-- ==== Sys2Proof/Proofs/Scope/Configuration.lean ====
section
/-! What a run can do to the configuration: no operation but CONSTRUCT and FILT.CFG moves it (R10, R75, R112, R323), and
what CONSTRUCT builds (R262 to R266). -/

namespace Sys2Proof.Machine

/-- The parameters, the port values, the latched configuration and every coefficient are the same. -/
structure KeepsConfig (s t : State) : Prop where
  params : t.params = s.params
  ports : t.ports = s.ports
  cfg : t.cfg = s.cfg
  coef : ∀ f, (t.filt.get f).coef = (s.filt.get f).coef

theorem KeepsConfig.refl (s : State) : KeepsConfig s s := ⟨rfl, rfl, rfl, fun _ => rfl⟩

theorem KeepsConfig.trans {s t u : State} (h : KeepsConfig s t) (h' : KeepsConfig t u) : KeepsConfig s u :=
  ⟨h'.params.trans h.params, h'.ports.trans h.ports, h'.cfg.trans h.cfg, fun f => (h'.coef f).trans (h.coef f)⟩

/-! ## The shared operations -/

theorem setRet_keepsConfig {s t : State} (h : KeepsConfig s t) (r : OpResult) : KeepsConfig s (t.setRet r) := { h with }

theorem raise_keepsConfig (e : ErrCode) (s : State) : KeepsConfig s (raise e s) := { KeepsConfig.refl s with }

theorem filtRst_keepsConfig (P : Params) (f : SectionName) (s : State) : KeepsConfig s (filtRst P f s) where
  params := rfl
  ports := rfl
  cfg := rfl
  coef g := by cases f <;> cases g <;> rfl

theorem filtRstAll_keepsConfig (P : Params) (s : State) : KeepsConfig s (filtRstAll P s) :=
  (filtRst_keepsConfig P .mark s).trans ((filtRst_keepsConfig P .space _).trans (filtRst_keepsConfig P .lp _))

theorem filtRun_keepsConfig (P : Params) (f : SectionName) (x : Number) (s : State) :
    KeepsConfig s (filtRun P f x s).1 where
  params := rfl
  ports := rfl
  cfg := rfl
  coef g := filtRun_coef P f g x s

theorem bitxLevel_keepsConfig (P : Params) (x : Sample) (s : State) : KeepsConfig s (bitxLevel P x s) :=
  { (filtRun_keepsConfig P .mark _ s).trans ((filtRun_keepsConfig P .space _ _).trans (filtRun_keepsConfig P .lp _ _)) with }

theorem bitxAcc_keepsConfig (s : State) : KeepsConfig s (bitxAcc s) := { KeepsConfig.refl s with }

theorem bitxZc_keepsConfig (P : Params) (s : State) : KeepsConfig s (bitxZc P s) := by
  rw [bitxZc_frame]
  exact { KeepsConfig.refl s with }

theorem bitxCorr_keepsConfig (P : Params) (s : State) : KeepsConfig s (bitxCorr P s) := by
  rw [bitxCorr_frame]
  exact { KeepsConfig.refl s with }

theorem bitxDump_keepsConfig (s : State) : KeepsConfig s (bitxDump s) := by
  rw [bitxDump_frame]
  exact { KeepsConfig.refl s with }

theorem syncSql_keepsConfig (P : Params) (present : Bool) (s : State) : KeepsConfig s (syncSql P present s) := by
  unfold syncSql
  split
  · split
    · exact { KeepsConfig.refl s with }
    · exact .refl s
  · split
    · exact .refl s
    · rw [enterNoSignal_frame]
      exact { filtRstAll_keepsConfig P s with }

theorem syncBit_keepsConfig (P : Params) (bit : Bool) (s : State) : KeepsConfig s (syncBit P bit s) := by
  rw [syncBit_frame]
  exact { KeepsConfig.refl s with }

theorem syncStep_keepsConfig (P : Params) (s : State) : KeepsConfig s (syncStep P s) := by
  have hsql := syncSql_keepsConfig P s.bx.signalPresent s
  simp only [syncStep]
  split
  · exact hsql.trans (syncBit_keepsConfig P _ _)
  · exact hsql

theorem decRst_keepsConfig (s : State) : KeepsConfig s (decRst s) := by
  rw [decRst_frame]
  exact { KeepsConfig.refl s with }

theorem decChar_keepsConfig (P : Params) (code : RawCode) (s : State) : KeepsConfig s (decChar P code s).1 := by
  rw [decChar_frame]
  exact { KeepsConfig.refl s with }

theorem fecChar_keepsConfig (P : Params) (d : BitVec 7) (s : State) : KeepsConfig s (fecChar P d s).1 := by
  rw [fecChar_frame]
  exact { KeepsConfig.refl s with }

theorem ita2Char_keepsConfig (P : Params) (d : BitVec 5) (s : State) : KeepsConfig s (ita2Char P d s).1 := by
  rw [ita2Char_frame]
  exact { KeepsConfig.refl s with }

theorem sampleStep_keepsConfig (P : Params) (x : Sample) (s : State) : KeepsConfig s (sampleStep P x s) := by
  have level : KeepsConfig s (bitxLevel P x (s.setOut [])) := { bitxLevel_keepsConfig P x (s.setOut []) with }
  have extract : KeepsConfig s (extractBit P x s) :=
    level.trans ((bitxAcc_keepsConfig _).trans ((bitxZc_keepsConfig P _).trans
      ((bitxCorr_keepsConfig P _).trans (bitxDump_keepsConfig _))))
  rw [sampleStep_eq]
  exact { extract.trans (syncStep_keepsConfig P _) with }

/-! ## Commands, frames and code words -/

theorem start_keepsConfig (s : State) : KeepsConfig s (start s) := by
  unfold start
  split
  · exact raise_keepsConfig _ s
  · split
    · exact raise_keepsConfig _ s
    · exact { KeepsConfig.refl s with }

theorem stop_keepsConfig (s : State) : KeepsConfig s (stop s) := { KeepsConfig.refl s with }

theorem resetCommand_keepsConfig (P : Params) (s : State) : KeepsConfig s (resetCommand P s) := by
  unfold resetCommand
  split
  · exact raise_keepsConfig _ s
  · rw [resetAll_frame]
    exact { filtRstAll_keepsConfig P s with }

theorem sample_keepsConfig (P : Params) (x : Sample) (s : State) : KeepsConfig s (sample P x s) := by
  unfold sample
  split
  · exact raise_keepsConfig _ s
  · split
    · exact raise_keepsConfig _ s
    · exact (sampleStep_keepsConfig P x s).trans (raise_keepsConfig _ _)

theorem receiveBits_keepsConfig (P : Params) (bits : List Bool) (s : State) :
    KeepsConfig s (bits.foldl (receiveBit P) s) := by
  induction bits generalizing s with
  | nil => exact .refl s
  | cons b rest ih => exact ((syncSql_keepsConfig P true s).trans (syncBit_keepsConfig P b _)).trans (ih _)

theorem receiveFrame_keepsConfig (spec : FramingSpec) (data : Nat) (s : State) :
    KeepsConfig s (receiveFrame spec data s) := by
  unfold receiveFrame receiveCode
  split
  · exact { receiveBits_keepsConfig s.params _ (s.setOut []) with }
  · exact .refl s

theorem codeWord_keepsConfig {enc : Encoding} {call : State → State} {s : State} (h : KeepsConfig s (call s)) :
    KeepsConfig s (codeWord enc call s) := by
  unfold codeWord
  split
  · exact h
  · exact .refl s

theorem fecWord_keepsConfig (d : BitVec 7) (s : State) : KeepsConfig s (fecWord d s) :=
  codeWord_keepsConfig (setRet_keepsConfig (fecChar_keepsConfig ..) _)

theorem ita2Word_keepsConfig (d : BitVec 5) (s : State) : KeepsConfig s (ita2Word d s) :=
  codeWord_keepsConfig (setRet_keepsConfig (ita2Char_keepsConfig ..) _)

theorem asciiWord_keepsConfig (d : DataCode) (s : State) : KeepsConfig s (asciiWord d s) :=
  codeWord_keepsConfig (setRet_keepsConfig (.refl s) _)

/-- CONSTRUCT passes its checks when those of R264, R265 and R266 hold (R262). -/
theorem constructCheck_ok {s : State} {d : Descriptor} {enc : Encoding} (hrun : s.ctl.running = false)
    (hd : frmParse s.ports.framing = some d) (henc : NamesEncoding s.ports.encoding enc) (hpair : PairLegal enc d)
    (hlegal : ConfigLegal s.params s.ports d) :
    constructCheck s.params s = .ok (latch s.params s.ports d enc) := by
  simp only [constructCheck, hrun, hd, (encSelect_eq_some_iff ..).mpr henc, (comboOk_iff ..).mpr hpair,
    (configOk_iff ..).mpr hlegal, if_true, Bool.false_eq_true, if_false]

/-- The effect of CONSTRUCT on a block whose checks answer a configuration (R262). -/
theorem construct_eq {P : Params} {s : State} {c : Latched} (h : constructCheck P s = .ok c) :
    let toneQ := Resonance.rational (P.toneQ.at c.centerFreq)
    construct P s = { s with
      cfg := c
      filt := ⟨.cleared P.zero (P.coefficients .bandpass c.markFreq c.sampleRate toneQ),
        .cleared P.zero (P.coefficients .bandpass c.spaceFreq c.sampleRate toneQ),
        .cleared P.zero (P.coefficients .lowpass P.lpFreq c.sampleRate P.lpQ)⟩
      bx := bxInitial P c s.bx
      sync := ⟨.noSignal, true, 0, 0, 0, 0, freeWindow P c.T s.freeCount, 0, false⟩
      ita2 := ⟨false, false, 0⟩
      fec := ⟨false, 0, 0, 0, false⟩
      diag := ⟨0, 0, 0⟩
      ctl := ⟨true, false, .ok⟩
      freeCount := s.freeCount + 1 } := by
  simp only [construct, h]
  rw [resetAll_frame]
  rfl

theorem construct_ports (P : Params) (s : State) : (construct P s).ports = s.ports := by
  cases h : constructCheck P s with
  | error e => simp only [construct, h]; rfl
  | ok c => rw [construct_eq h]

/-- No instruction but CONSTRUCT and FILT.CFG moves the configuration or a coefficient. -/
theorem exec_keepsConfig {i : Instr} {s t : State} (h : exec i s = .next t) (hconstruct : ∀ imm, i ≠ .construct imm)
    (hcfg : ∀ f kind fr sr q, i ≠ .filtCfg f kind fr sr q) : KeepsConfig s t := by
  cases i with
  | construct imm => exact absurd rfl (hconstruct imm)
  | filtCfg f kind fr sr q => exact absurd rfl (hcfg f kind fr sr q)
  | start _ => cases h; exact start_keepsConfig s
  | stop _ => cases h; exact stop_keepsConfig s
  | reset _ => cases h; exact resetCommand_keepsConfig s.params s
  | sample x => cases h; exact sample_keepsConfig s.params x s
  | filtRst f => cases h; exact filtRst_keepsConfig s.params f s
  | filtRun f x => cases h; exact setRet_keepsConfig (filtRun_keepsConfig s.params f x s) _
  | bitxLevel x => cases h; exact bitxLevel_keepsConfig s.params x s
  | bitxAcc => cases h; exact bitxAcc_keepsConfig s
  | bitxZc => cases h; exact bitxZc_keepsConfig s.params s
  | bitxCorr => cases h; exact bitxCorr_keepsConfig s.params s
  | bitxDump => cases h; exact bitxDump_keepsConfig s
  | syncSql present => cases h; exact syncSql_keepsConfig s.params present s
  | syncBit bit => cases h; exact syncBit_keepsConfig s.params bit s
  | decChar code => cases h; exact setRet_keepsConfig (decChar_keepsConfig s.params code s) _
  | decRst => cases h; exact decRst_keepsConfig s
  | fecChar d => cases h; exact setRet_keepsConfig (fecChar_keepsConfig s.params d s) _
  | ita2Char d => cases h; exact setRet_keepsConfig (ita2Char_keepsConfig s.params d s) _
  | fecRst | ita2Rst => cases h; exact { KeepsConfig.refl s with }
  | ascRst => cases h; exact .refl s
  | frmParse | frmCheck | frmCheckDoubled | frmExtract | decCheck | fecCheck | ita2Check | ascCheck | ascChar | getNBits
  | getMsb => cases h; exact setRet_keepsConfig (.refl s) _
  | sampleStep x => cases h; exact sampleStep_keepsConfig s.params x s
  | _ =>
    -- the frames, the code words, NOP and the reserved opcodes
    cases h
    simp only [receiveFrame_keepsConfig, fecWord_keepsConfig, ita2Word_keepsConfig, asciiWord_keepsConfig,
      raise_keepsConfig]

/-- Settles O18, by `exec_keepsConfig` for every instruction but the two that configure. -/
theorem configurationImmutable : Obligations.ConfigurationImmutable := by
  intro i s t h
  by_cases hconstruct : ∃ imm, i = .construct imm
  · obtain ⟨imm, rfl⟩ := hconstruct
    cases h
    exact ⟨construct_params .., construct_ports .., fun hne => absurd rfl (hne imm)⟩
  · by_cases hcfg : ∃ f kind fr sr q, i = .filtCfg f kind fr sr q
    · obtain ⟨f, kind, fr, sr, q, rfl⟩ := hcfg
      cases h
      exact ⟨rfl, rfl, fun _ => ⟨rfl, fun hne => absurd rfl (hne f kind fr sr q)⟩⟩
    · have kept := exec_keepsConfig h (fun imm heq => hconstruct ⟨imm, heq⟩)
        (fun f kind fr sr q heq => hcfg ⟨f, kind, fr, sr, q, heq⟩)
      exact ⟨kept.params, kept.ports, fun _ => ⟨kept.cfg, fun _ => kept.coef⟩⟩

/-- `N` is the exact rounding of R11, which CONSTRUCT has checked to be at least 2 (R266). -/
theorem latch_N_eq {P : Params} {p : ConfigPorts} {d : Descriptor} {enc : Encoding} (h : ConfigLegal P p d) :
    let c := latch P p d enc
    (c.N : Int) = ((p.sampleRate.toNat : Rat) / (c.baudC * c.k) + 1 / 2).floor := by
  have hok := (configOk_iff P p d enc).mpr h
  simp only [configOk, Bool.and_eq_true, decide_eq_true_eq] at hok
  have hN : 2 ≤ (roundHalfUp ((p.sampleRate.toNat : Rat) / (clampBaud p.baud * symbolsPerBit d))).toNat := hok.2
  exact Int.toNat_of_nonneg (by omega)

/-- Settles O13: the checks pass, and the effect is the one of `construct_eq` on the latched values. -/
theorem constructBuildsDecoder : Obligations.ConstructBuildsDecoder := by
  intro imm s d enc hrun hd henc hpair hlegal zero
  have hN := latch_N_eq (enc := enc) hlegal
  refine ⟨construct s.params s, freeWindow s.params d.totalBits s.freeCount, s.freeCount + 1, rfl, ?_⟩
  rw [construct_eq (constructCheck_ok hrun hd henc hpair hlegal)]
  exact ⟨rfl, rfl, rfl, rfl, rfl, rfl, clampBaud_eq _, rfl, rfl, rfl, hN, rfl, rfl, rfl, rfl, rfl, ⟨rfl, rfl, rfl⟩, rfl,
    freeWindow_length .., freeWindow_fits s.params _ _, rfl, rfl, rfl, rfl, rfl, rfl, rfl, rfl, rfl, rfl⟩

/-! ## Power-on -/

theorem paramsLegal_default : ParamsLegal Params.default := ⟨by decide, by decide, by decide, by decide⟩

/-- A block at power-on with legal parameters is sound: it is not constructed and every group is as at power-on (R51). -/
theorem powerOn_sound {P : Params} (hP : ParamsLegal P) : Sound (State.powerOn P) where
  params_legal := hP
  numbers := powerOn_numbers P
  running_constructed := nofun
  tallies := ⟨Nat.two_pow_pos _, Nat.two_pow_pos _⟩
  constructed := nofun
  unconstructed := fun _ => ⟨rfl, rfl, rfl, rfl, rfl, rfl⟩

/-- Settles O21, by `powerOn_sound` and the values of `Params.default`. -/
theorem resetIsSound : Obligations.ResetIsSound := by
  have toneQ (fc : Rat) : State.reset.params.toneQ.at fc = 6 * fc / 1000 := by
    show 6 / 1000 * fc = 6 * fc / 1000
    ring
  exact ⟨fun _ hP => powerOn_sound hP, powerOn_sound paramsLegal_default, rfl, fun _ => rfl, toneQ, rfl, rfl, fun _ => rfl,
    rfl, rfl, rfl, rfl, rfl, rfl, rfl, rfl, rfl⟩

end Sys2Proof.Machine
end

section
/-! RESET and SYNC.SQL: the words of the commands, and the resets they make of the groups of R51 (R161, R162, R268). -/

namespace Sys2Proof.Machine

/-! ## RESET -/

/-- The fields of a command word with its operand written beside the opcode (R81). -/
theorem commandWord_fields (op : Nat) (imm : Sample) (hop : op < 16) :
    let w : RawCode := BitVec.ofNat 32 (op * 2 ^ 16) + imm.zeroExtend 32
    w.toNat < 2 ^ Space.command.width ∧ bitsAt w 16 4 = op ∧ w.truncate 16 = imm := by
  intro w
  have himm := imm.isLt
  have hw : w.toNat = op * 2 ^ 16 + imm.toNat := by
    simp only [w, BitVec.toNat_add, BitVec.toNat_ofNat, BitVec.truncate_eq_setWidth, BitVec.toNat_setWidth]
    omega
  refine ⟨?_, ?_, BitVec.eq_of_toNat_eq ?_⟩
  · rw [hw]
    show _ < 2 ^ 20
    omega
  · rw [bitsAt, hw]
    omega
  · rw [BitVec.truncate_eq_setWidth, BitVec.toNat_setWidth, hw]
    omega

theorem decode_resetWord (imm : Sample) : decode .command (0x40000 + imm.zeroExtend 32) = .ok (.reset imm) := by
  obtain ⟨hfits, hop, himm⟩ := commandWord_fields 4 imm (by decide)
  change (0x40000 + imm.zeroExtend 32 : RawCode).toNat < _ at hfits
  change bitsAt (0x40000 + imm.zeroExtend 32) 16 4 = 4 at hop
  change (0x40000 + imm.zeroExtend 32 : RawCode).truncate 16 = imm at himm
  simp only [decode, hfits, if_true, decodeCommand, hop, himm]

theorem resetCommand_unconstructed {P : Params} {s : State} (h : s.ctl.constructed = false) :
    resetCommand P s = raise .notConstructed s := by
  simp only [resetCommand, h, Bool.not_false, if_true]

theorem resetCommand_constructed {P : Params} {s : State} (h : s.ctl.constructed = true) :
    resetCommand P s = raise .ok (resetAll P s) := by
  simp only [resetCommand, h, Bool.not_true, Bool.false_eq_true, if_false]

/-- Settles O11: the effect is that of RESET_ALL, by its frame. -/
theorem resetEffect : Obligations.ResetEffect := by
  intro imm s zero
  refine ⟨decode_resetWord imm, fun h => ?_, fun h => ?_⟩
  · exact congrArg Host.Outcome.next (resetCommand_unconstructed h)
  · refine ⟨freeWindow s.params s.cfg.T s.freeCount, s.freeCount + 1, freeWindow_length ..,
      freeWindow_fits s.params _ _, ?_⟩
    refine congrArg Host.Outcome.next ?_
    rw [resetCommand_constructed h, resetAll_frame, filtRstAll_frame]
    rfl

/-! ## SYNC.SQL -/

/-- Settles O37, by the branches of SYNC.SQL and the frame of entry to NoSignal. -/
theorem syncSqlEffect : Obligations.SyncSqlEffect := by
  intro s zero
  refine ⟨fun h => ?_, fun h => ?_, fun h => ?_, fun h => ?_⟩
  · exact congrArg Host.Outcome.next (if_pos h)
  · refine ⟨freeWindow s.params s.cfg.T s.freeCount, s.freeCount + 1, freeWindow_length ..,
      freeWindow_fits s.params _ _, ?_⟩
    have left : syncSql s.params false s = enterNoSignal s.params s := if_neg h
    refine congrArg Host.Outcome.next ?_
    rw [left, enterNoSignal_frame, filtRstAll_frame]
    rfl
  · exact congrArg Host.Outcome.next (if_pos h)
  · exact congrArg Host.Outcome.next (if_neg h)

end Sys2Proof.Machine
end

section
/-! The status ports as numbers (R33, R49, R193, R291). -/

namespace Sys2Proof.Machine

/-! ## Numbers on the ports -/

/-- `STATUS` as a number: the fields of R49 at their places. -/
theorem statusPort_toNat (s : State) :
    (statusPort s).toNat = 4 * s.ctl.err.toBits.toNat + 2 * s.ctl.running.toNat + s.ctl.constructed.toNat := by
  simp only [statusPort]
  cases s.ctl.err <;> cases s.ctl.running <;> cases s.ctl.constructed <;> rfl

/-- The fields of `STATUS` (R49). -/
theorem statusPort_fields (s : State) :
    (statusPort s).getLsbD 0 = s.ctl.constructed ∧ (statusPort s).getLsbD 1 = s.ctl.running
      ∧ (statusPort s).extractLsb' 2 4 = s.ctl.err.toBits := by
  simp only [statusPort]
  cases s.ctl.err <;> cases s.ctl.running <;> cases s.ctl.constructed <;> exact ⟨rfl, rfl, rfl⟩

theorem tallyPort_toNat {w v : Nat} (h : v < 2 ^ w) : (BitVec.ofNat w v).toNat = v := by
  rw [BitVec.toNat_ofNat, Nat.mod_eq_of_lt h]

theorem timingErrorWidth_eq (s : State) : timingErrorWidth s = Nat.clog 2 s.cfg.N + 2 := by
  rw [timingErrorWidth, ceilLog2_eq_clog]

/-- Port 9 as a number: the timing error modulo the port's range. -/
theorem timingErrorPort_toNat (s : State) :
    (timingErrorPort s).toNat = (s.diag.timingError % (2 ^ timingErrorWidth s : Nat)).toNat := BitVec.toNat_ofInt ..

/-- The raw offset, in `[-N, N - 1]` (R46), fits port 9 in two's complement. -/
theorem timingErrorPort_toInt {s : State} (h : TimingWf s) : (timingErrorPort s).toInt = s.diag.timingError := by
  obtain ⟨hlo, hhi⟩ := h.timingError_range
  have hN : s.cfg.N ≤ 2 ^ Nat.clog 2 s.cfg.N := Nat.le_pow_clog (by decide) _
  have half : 2 ^ (timingErrorWidth s - 1) = 2 * 2 ^ Nat.clog 2 s.cfg.N := by
    rw [timingErrorWidth_eq, Nat.add_succ_sub_one, Nat.pow_succ, Nat.mul_comm]
  have whole : 2 ^ timingErrorWidth s = 4 * 2 ^ Nat.clog 2 s.cfg.N := by
    rw [timingErrorWidth_eq, Nat.pow_add, Nat.mul_comm]
  rw [timingErrorPort, BitVec.toInt_ofInt, whole]
  exact Int.bmod_eq_of_le (by omega) (by omega)

/-- The longest frame is the 21 symbol bits of `8N1.5` (R192). -/
theorem totalBits_le (spec : FramingSpec) : spec.totalBits ≤ 21 := by
  cases spec with
  | fourOfSeven => decide
  | async d st efr => cases d <;> cases st <;> decide +revert

theorem descriptorOf_totalBits (spec : FramingSpec) : (descriptorOf spec).totalBits = spec.totalBits := by
  cases spec <;> rfl

/-- The mask `MSB` as a number (R193). -/
theorem msb_toNat {T : Nat} (h : T ≤ 32) (hpos : 0 < T) : ((1 : RawCode) <<< (T - 1)).toNat = 2 ^ (T - 1) := by
  have fits : 2 ^ (T - 1) < 2 ^ 32 := Nat.pow_lt_pow_right (by decide) (by omega)
  rw [BitVec.toNat_shiftLeft, Nat.shiftLeft_eq]
  show 1 * 2 ^ (T - 1) % 2 ^ 32 = _
  rw [Nat.one_mul, Nat.mod_eq_of_lt fits]

/-- Ports 12 and 13 of a latched configuration (R193). -/
theorem ConfigWf.lengthPorts {s : State} (h : ConfigWf s.params s.cfg) :
    (nbitsPort s).toNat = s.cfg.desc.totalBits ∧ (msbMaskPort s).toNat = 2 ^ (s.cfg.desc.totalBits - 1) := by
  have pos := h.T_pos
  have msb := h.msb_eq
  obtain ⟨p, spec, enc, hcfg, -, -⟩ := h
  have hT : s.cfg.T = s.cfg.desc.totalBits := by rw [hcfg]; rfl
  have le : s.cfg.T ≤ 21 := by
    rw [hcfg]
    exact (descriptorOf_totalBits spec).trans_le (totalBits_le spec)
  refine ⟨?_, ?_⟩
  · rw [nbitsPort, BitVec.toNat_ofNat, ← hT]
    omega
  · rw [msbMaskPort, msb, msb_toNat (by omega) pos, hT]

/-- A port outside 7 to 13 is not read (R50, R275). -/
theorem readPort_none {P : Params} {s : State} {k : Nat} (h : k < 7 ∨ 13 < k) : readPort P s k = none := by
  unfold readPort
  split
  case h_8 => rfl
  all_goals omega

/-- Settles O23, port by port; the values of ports 9 to 13 fit by the ranges of `Sound`. -/
theorem statusRegisterLayout : Obligations.StatusRegisterLayout := by
  intro s errCode syncCode
  have err : s.ctl.err.toBits.toNat = errCode := by
    simp only [errCode]
    cases s.ctl.err <;> rfl
  have sync : (syncStatePort s).toNat = syncCode := by
    simp only [syncStatePort, syncCode]
    cases s.sync.state <;> rfl
  obtain ⟨bit0, bit1, field⟩ := statusPort_fields s
  refine ⟨⟨bit0, bit1, by rw [field, err], sync⟩, ?_, ?_, fun _ => readPort_none, fun h => ?_, fun h hc => ?_⟩
  · simp only [readPort, statusPort_toNat, err]
  · simp only [readPort, sync]
  · have succ : (succTallyPort s.params s).toNat = s.diag.succTally := tallyPort_toNat h.tallies.1
    have fail : (failTallyPort s.params s).toNat = s.diag.failTally := tallyPort_toNat h.tallies.2
    exact ⟨succ, fail, by rw [readPort, succ], by rw [readPort, fail]⟩
  · obtain ⟨nbits, mask⟩ := (h.configWf hc).lengthPorts
    refine ⟨timingErrorPort_toInt (h.timingWf hc), ?_, by rw [readPort, nbits], by rw [readPort, mask]⟩
    rw [readPort, timingErrorPort_toNat, timingErrorWidth_eq]

end Sys2Proof.Machine
end

section
/-! The character decoders, case by case, and the code words that call them (R44, R90 to R92, R214, R215, R233, R234,
R250 to R253, R304). -/

namespace Sys2Proof.Machine

/-! ## Code words -/

/-- A code word is the call of its decoder where that decoder is at work, and nothing elsewhere (R44, R304). -/
theorem codeWord_cases (enc : Encoding) (call : State → State) (s : State) :
    let atWork := s.ctl.constructed = true ∧ s.ctl.running = true ∧ s.cfg.enc = enc ∧ s.sync.state ≠ .noSignal
    (atWork → codeWord enc call s = call s) ∧ (¬atWork → codeWord enc call s = s) := by
  rw [← decoding_iff]
  exact ⟨codeWord_decoding call, codeWord_idle call⟩

/-! ## ASCII -/

theorem ascChar_seven (d : DataCode) : ascChar 7 d = (d &&& 0x7F).zeroExtend 21 := rfl

theorem ascChar_of_ne_seven {dataBits : Nat} (h : dataBits ≠ 7) (d : DataCode) :
    ascChar dataBits d = d.zeroExtend 21 := by
  have mask : d &&& 0xFF = d := BitVec.and_allOnes
  rw [ascChar, if_neg h, mask]

/-- Either mask leaves a 7-bit code as it is (R92, R252). -/
theorem ascChar_zeroExtend (dataBits : Nat) (d : BitVec 7) : ascChar dataBits (d.zeroExtend 8) = d.zeroExtend 21 := by
  have mask : d.zeroExtend 8 &&& 0x7F = d.zeroExtend 8 := by
    revert d
    decide
  have widen : (d.zeroExtend 8).zeroExtend 21 = d.zeroExtend 21 := by
    revert d
    decide
  by_cases h : dataBits = 7
  · rw [h, ascChar_seven, mask, widen]
  · rw [ascChar_of_ne_seven h, widen]

/-- Settles O60: ASC.CHAR under either mask, and the code words by `codeWord_cases`. -/
theorem asciiPassThrough : Obligations.AsciiPassThrough := by
  intro d d7 s atWork
  have call (d : DataCode) : ascCall d s = s.setRet (.char (some (ascChar s.cfg.desc.dataBits d))) := rfl
  have masked (h : s.cfg.desc.dataBits = 7) : ascCall d s = s.setRet (.char (some ((d &&& 0x7F).zeroExtend 21))) := by
    rw [call, h, ascChar_seven]
  have whole (h : s.cfg.desc.dataBits ≠ 7) : ascCall d s = s.setRet (.char (some (d.zeroExtend 21))) := by
    rw [call, ascChar_of_ne_seven h]
  have seven : ascCall (d7.zeroExtend 8) s = s.setRet (.char (some (d7.zeroExtend 21))) := by
    rw [call, ascChar_zeroExtend]
  obtain ⟨work7, idle7⟩ := codeWord_cases .ascii (ascCall (d7.zeroExtend 8)) s
  obtain ⟨work8, idle8⟩ := codeWord_cases .ascii (ascCall d) s
  exact ⟨fun h => congrArg _ (masked h), fun h => congrArg _ (whole h), fun hw => congrArg _ ((work7 hw).trans seven),
    fun hw h => congrArg _ ((work8 hw).trans (masked h)), fun hw h => congrArg _ ((work8 hw).trans (whole h)),
    fun hw => ⟨congrArg _ (idle7 hw), congrArg _ (idle8 hw)⟩, rfl, rfl⟩

/-! ## ITA2 -/

/-- ITA2.CHAR with an empty lookback: the code is buffered, nothing else (R233, R235). -/
theorem ita2Char_first {P : Params} {s : State} (h : s.ita2.lookValid = false) (d : BitVec 5) :
    ita2Char P d s = (s.setIta2 ⟨s.ita2.shift, true, d⟩, none) := by
  simp only [ita2Char, h, Bool.not_false, if_true]

/-- ITA2.CHAR of a shift code: the previous code flips the shift, and nothing is printed (R233). -/
theorem ita2Char_shiftCode {P : Params} {s : State} {d : BitVec 5} (h : s.ita2.lookValid = true)
    (hd : d = figsCode ∨ d = ltrsCode) :
    ita2Char P d s = (s.setIta2 ⟨shiftAfter s.ita2.look s.ita2.shift, true, d⟩, none) := by
  simp only [ita2Char, h, Bool.not_true, Bool.false_eq_true, if_false, hd, if_true]
  rfl

/-- ITA2.CHAR of a printing code: the glyph of the shift that the previous code leaves, and the unshift on space
(R233, R234). -/
theorem ita2Char_printing {P : Params} {s : State} {d : BitVec 5} (h : s.ita2.lookValid = true)
    (hd : ¬(d = figsCode ∨ d = ltrsCode)) :
    let shift := shiftAfter s.ita2.look s.ita2.shift
    ita2Char P d s = (s.setIta2 ⟨if P.usos = true ∧ d = spaceCode then false else shift, true, d⟩,
      if shift then P.ita2Figs.at d else P.ita2Ltrs.at d) := by
  intro shift
  simp only [ita2Char, h, Bool.not_true, Bool.false_eq_true, if_false, hd, Bool.and_eq_true, decide_eq_true_eq]
  by_cases hspace : P.usos = true ∧ d = spaceCode
  · simp only [hspace, and_self, if_true]
    rfl
  · simp only [hspace, if_false]
    rfl

/-- Settles O57: the three cases of ITA2.CHAR, and the code words by `codeWord_cases`. -/
theorem ita2CharEffect : Obligations.Ita2CharEffect := by
  intro d s shift c unshift result atWork
  have call : .next (ita2Call d s) = result := by
    have unfolded : ita2Call d s = (ita2Char s.params d s).1.setRet (.char (ita2Char s.params d s).2) := rfl
    refine congrArg Host.Outcome.next (unfolded.trans ?_)
    obtain hlook | hlook := Bool.eq_false_or_eq_true s.ita2.lookValid
    · by_cases hd : d = figsCode ∨ d = ltrsCode
      · have notSpace : d ≠ 0x04 := by rintro rfl; revert hd; decide
        have hd' : d = 0x1B ∨ d = 0x1F := hd
        rw [ita2Char_shiftCode hlook hd]
        simp only [c, unshift, shift, hlook, hd', notSpace, and_false, or_true, if_true, if_false]
        rfl
      · have hd' : ¬(d = 0x1B ∨ d = 0x1F) := hd
        rw [ita2Char_printing hlook hd]
        simp only [c, unshift, shift, hlook, hd', Bool.true_eq_false, false_or, true_and, if_false]
        rfl
    · rw [ita2Char_first hlook]
      simp only [c, unshift, shift, hlook, Bool.false_eq_true, false_and, and_false, true_or, if_true, if_false]
      rfl
  obtain ⟨work, idle⟩ := codeWord_cases .ita2 (ita2Call d) s
  rw [exec_decodeIta2]
  exact ⟨call, fun hw => (congrArg _ (work hw)).trans call, fun hw => congrArg _ (idle hw)⟩

/-! ## 4-of-7 -/

/-- FEC.CHAR in a repeat slot (R214). -/
theorem fecChar_repeat {P : Params} {d : BitVec 7} {s : State} (h : fecSlot d s.fec.alphaPhase = false) :
    fecChar P d s = (s.setFec { s.fec with c1 := s.fec.c2, c2 := s.fec.c3, c3 := d, alphaPhase := true }, none,
      fecCheck d) := by
  simp only [fecChar, h]
  rfl

/-- FEC.CHAR in an alpha slot (R214). -/
theorem fecChar_alpha {P : Params} {d : BitVec 7} {s : State} (h : fecSlot d s.fec.alphaPhase = true) :
    fecChar P d s = ((fecAlpha P d s).1.setFec { (fecAlpha P d s).1.fec with alphaPhase := false }, (fecAlpha P d s).2,
      fecCheck d) := by
  simp only [fecChar, h]
  rfl

/-- An alpha slot with neither the current nor the buffered code valid (R214). -/
theorem fecAlpha_failure {P : Params} {d : BitVec 7} {s : State} (h : fecCheck d = false ∧ fecCheck s.fec.c1 = false) :
    fecAlpha P d s = (countFailure P s, none) := by
  simp only [fecAlpha, fecChosen, h, Bool.false_eq_true, if_false]

/-- An alpha slot with a valid code: the current one if valid, else the buffered one (R214). -/
theorem fecAlpha_success {P : Params} {d : BitVec 7} {s : State}
    (h : ¬(fecCheck d = false ∧ fecCheck s.fec.c1 = false)) :
    let v := if fecCheck d then d else s.fec.c1
    fecAlpha P d s = ((countSuccess P s).setFec { s.fec with shift := (fecInterpret P v s.fec.shift).1 },
      (fecInterpret P v s.fec.shift).2) := by
  intro v
  have chosen : fecChosen d s.fec.c1 = some v := by
    simp only [fecChosen, v]
    cases hd : fecCheck d with
    | true => rfl
    | false =>
      have buffered : fecCheck s.fec.c1 = true := by simpa [hd] using h
      simp only [buffered, Bool.false_eq_true, if_false, if_true]
  simp only [fecAlpha, chosen]
  rfl

/-- FEC_INTERPRET by its two results: the two shift codes set the shift; the six control codes print nothing (R215). -/
theorem fecInterpret_eq (P : Params) (v : BitVec 7) (shift : Bool) :
    fecInterpret P v shift = (if v = 0x5A then false else if v = 0x36 then true else shift,
      if v ∈ [0x66, 0x0F, 0x33, 0x6A, 0x5A, 0x36] then none else if shift then P.fecFigs.at v else P.fecLtrs.at v) := by
  unfold fecInterpret
  by_cases hsilent : v = 0x66 ∨ v = 0x0F ∨ v = 0x33 ∨ v = 0x6A
  · rcases hsilent with rfl | rfl | rfl | rfl <;> rfl
  · rw [if_neg hsilent]
    by_cases hletters : v = 0x5A
    · subst hletters
      rfl
    · by_cases hfigures : v = 0x36
      · subst hfigures
        rfl
      · have printing : v ∉ [0x66, 0x0F, 0x33, 0x6A, 0x5A, 0x36] := by
          simpa only [List.mem_cons, List.not_mem_nil, hletters, hfigures, or_false] using hsilent
        rw [if_neg hletters, if_neg hfigures, if_neg hletters, if_neg hfigures, if_neg printing]

/-- Settles O55: the slots and decisions of FEC.CHAR, and the code words by `codeWord_cases`. -/
theorem fecCharEffect : Obligations.FecCharEffect := by
  intro d s alpha ok result atWork
  have call : .next (fecCall d s) = result := by
    have unfolded : fecCall d s = (fecChar s.params d s).1.setRet
      (.charOk (fecChar s.params d s).2.1 (fecChar s.params d s).2.2) := rfl
    rw [unfolded]
    obtain hslot | hslot := Bool.eq_false_or_eq_true alpha
    · rw [fecChar_alpha hslot]
      simp only [result, hslot, Bool.true_eq_false, if_false]
      by_cases hnone : ok = false ∧ fecCheck s.fec.c1 = false
      · rw [if_pos hnone, fecAlpha_failure hnone]
        rfl
      · rw [if_neg hnone, fecAlpha_success hnone, fecInterpret_eq]
        rfl
    · rw [fecChar_repeat hslot]
      simp only [result, hslot, if_true]
      rfl
  obtain ⟨work, idle⟩ := codeWord_cases .ccir476 (fecCall d) s
  rw [exec_decodeCcir476]
  exact ⟨call, fun hw => (congrArg _ (work hw)).trans call, fun hw => congrArg _ (idle hw)⟩

end Sys2Proof.Machine
end

section
/-! No rule reads the tallies (R45, R303): every operation leads two states that differ in the tallies alone to two such
states. -/

namespace Sys2Proof.Machine

/-- What a completed group does after its character and its error count (R170, R172). -/
def endGroup (s : State) : State :=
  if (groupDone s).cfg.desc.varStop ∧ (groupDone s).sync.state = .steadyState then
    (groupDone s).setSync { (groupDone s).sync with waitSpace := true }
  else groupDone s

/-- A completed group: decode, emit, count errors, end (R170 to R172). -/
theorem steadyGroup_eq (P : Params) (s : State) :
    let result := (decChar P s.sync.code s).2
    steadyGroup P s = endGroup (steadyErr P result.2 (emitChar result.1 (decChar P s.sync.code s).1)) := rfl

/-- The state with other tallies. -/
def State.withTallies (s : State) (succ fail : Nat) : State :=
  s.setDiag { s.diag with succTally := succ, failTally := fail }

/-- The second state is the first but for the tallies. -/
def SameButTallies (s t : State) : Prop := ∃ succ fail, t = s.withTallies succ fail

namespace SameButTallies
variable {P : Params} {s t : State}

/-! ## What the relation says of the parts of the state -/

theorem params (h : SameButTallies s t) : t.params = s.params := by obtain ⟨_, _, rfl⟩ := h; rfl

theorem ports (h : SameButTallies s t) : t.ports = s.ports := by obtain ⟨_, _, rfl⟩ := h; rfl

theorem cfg (h : SameButTallies s t) : t.cfg = s.cfg := by obtain ⟨_, _, rfl⟩ := h; rfl

theorem bx (h : SameButTallies s t) : t.bx = s.bx := by obtain ⟨_, _, rfl⟩ := h; rfl

theorem sync (h : SameButTallies s t) : t.sync = s.sync := by obtain ⟨_, _, rfl⟩ := h; rfl

theorem ita2 (h : SameButTallies s t) : t.ita2 = s.ita2 := by obtain ⟨_, _, rfl⟩ := h; rfl

theorem fec (h : SameButTallies s t) : t.fec = s.fec := by obtain ⟨_, _, rfl⟩ := h; rfl

theorem ctl (h : SameButTallies s t) : t.ctl = s.ctl := by obtain ⟨_, _, rfl⟩ := h; rfl

/-! ## The updates -/

/-- An operation that commutes with a change of the tallies keeps the relation. -/
theorem of_commutes (h : SameButTallies s t) (f : State → State)
    (hf : ∀ succ fail, f (s.withTallies succ fail) = (f s).withTallies succ fail) : SameButTallies (f s) (f t) := by
  obtain ⟨succ, fail, rfl⟩ := h
  exact ⟨succ, fail, hf succ fail⟩

/-- A branch whose condition does not read the tallies is taken alike. -/
theorem ite {c d : Prop} [Decidable c] [Decidable d] {x y x' y' : State} (hcond : c ↔ d) (hx : SameButTallies x x')
    (hy : SameButTallies y y') : SameButTallies (if c then x else y) (if d then x' else y') := by
  by_cases hc : c
  · rw [if_pos hc, if_pos (hcond.mp hc)]
    exact hx
  · rw [if_neg hc, if_neg (fun hd => hc (hcond.mpr hd))]
    exact hy

theorem setCfg (h : SameButTallies s t) (x : Latched) : SameButTallies (s.setCfg x) (t.setCfg x) :=
  h.of_commutes (·.setCfg x) fun _ _ => rfl

theorem setBx (h : SameButTallies s t) (x : BitExtractor) : SameButTallies (s.setBx x) (t.setBx x) :=
  h.of_commutes (·.setBx x) fun _ _ => rfl

theorem setSync (h : SameButTallies s t) (x : Synchronizer) : SameButTallies (s.setSync x) (t.setSync x) :=
  h.of_commutes (·.setSync x) fun _ _ => rfl

theorem setIta2 (h : SameButTallies s t) (x : Ita2State) : SameButTallies (s.setIta2 x) (t.setIta2 x) :=
  h.of_commutes (·.setIta2 x) fun _ _ => rfl

theorem setFec (h : SameButTallies s t) (x : FecState) : SameButTallies (s.setFec x) (t.setFec x) :=
  h.of_commutes (·.setFec x) fun _ _ => rfl

theorem setCtl (h : SameButTallies s t) (x : Control) : SameButTallies (s.setCtl x) (t.setCtl x) :=
  h.of_commutes (·.setCtl x) fun _ _ => rfl

theorem setOut (h : SameButTallies s t) (x : List Event) : SameButTallies (s.setOut x) (t.setOut x) :=
  h.of_commutes (·.setOut x) fun _ _ => rfl

theorem setRet (h : SameButTallies s t) {x y : OpResult} (hxy : y = x) : SameButTallies (s.setRet x) (t.setRet y) := by
  obtain ⟨succ, fail, rfl⟩ := h; exact ⟨succ, fail, by rw [hxy]; rfl⟩

theorem setCharOk (h : SameButTallies s t) {c d : Option Scalar × Bool} (hcd : d = c) :
    SameButTallies (s.setRet (.charOk c.1 c.2)) (t.setRet (.charOk d.1 d.2)) := h.setRet (by rw [hcd])

/-! ## The shared operations -/

theorem raise (h : SameButTallies s t) (e : ErrCode) : SameButTallies (raise e s) (raise e t) :=
  h.of_commutes (Machine.raise e) fun _ _ => rfl

theorem emitChar (h : SameButTallies s t) (c : Option Scalar) : SameButTallies (emitChar c s) (emitChar c t) :=
  h.of_commutes (Machine.emitChar c) fun _ _ => by rw [emitChar_frame, emitChar_frame]; rfl

theorem enterState (h : SameButTallies s t) (q : SyncState) : SameButTallies (enterState q s) (enterState q t) :=
  h.of_commutes (Machine.enterState q) fun _ _ => rfl

theorem forceHunting (h : SameButTallies s t) : SameButTallies (forceHunting s) (forceHunting t) :=
  h.of_commutes Machine.forceHunting fun _ _ => rfl

theorem countSuccess (h : SameButTallies s t) : SameButTallies (countSuccess P s) (countSuccess P t) := by
  obtain ⟨succ, fail, rfl⟩ := h; exact ⟨satInc P.tallyW succ, fail, rfl⟩

theorem countFailure (h : SameButTallies s t) : SameButTallies (countFailure P s) (countFailure P t) := by
  obtain ⟨succ, fail, rfl⟩ := h; exact ⟨succ, satInc P.tallyW fail, rfl⟩

/-! ## Filter bank and bit extractor -/

theorem filtCfg (h : SameButTallies s t) (f : SectionName) (kind : SectionKind) (fr : Rat) (sr : Nat) (q : Resonance) :
    SameButTallies (filtCfg P f kind fr sr q s) (filtCfg P f kind fr sr q t) :=
  h.of_commutes (Machine.filtCfg P f kind fr sr q) fun _ _ => rfl

theorem filtRst (h : SameButTallies s t) (f : SectionName) : SameButTallies (filtRst P f s) (filtRst P f t) :=
  h.of_commutes (Machine.filtRst P f) fun _ _ => rfl

/-- FILT.RUN answers the same number besides. -/
theorem filtRun (h : SameButTallies s t) (f : SectionName) (x : Number) :
    SameButTallies (filtRun P f x s).1 (filtRun P f x t).1 ∧ (filtRun P f x t).2 = (filtRun P f x s).2 := by
  obtain ⟨succ, fail, rfl⟩ := h; exact ⟨⟨succ, fail, rfl⟩, rfl⟩

theorem bitxLevel (h : SameButTallies s t) (x : Sample) : SameButTallies (bitxLevel P x s) (bitxLevel P x t) :=
  h.of_commutes (Machine.bitxLevel P x) fun _ _ => rfl

theorem bitxAcc (h : SameButTallies s t) : SameButTallies (bitxAcc s) (bitxAcc t) :=
  h.of_commutes Machine.bitxAcc fun _ _ => rfl

theorem bitxZc (h : SameButTallies s t) : SameButTallies (bitxZc P s) (bitxZc P t) :=
  h.of_commutes (Machine.bitxZc P) fun _ _ => by rw [bitxZc_cases, bitxZc_cases]; rfl

theorem evaluate (h : SameButTallies s t) : SameButTallies (evaluate P s) (evaluate P t) := by
  rw [evaluate_cases, evaluate_cases, h.bx]
  obtain ⟨succ, fail, rfl⟩ := h
  dsimp only
  split <;> exact ⟨succ, fail, rfl⟩

theorem bitxCorr (h : SameButTallies s t) : SameButTallies (bitxCorr P s) (bitxCorr P t) := by
  have evaluated := h.evaluate (P := P)
  unfold Machine.bitxCorr
  dsimp only
  rw [h.bx, evaluated.bx]
  exact .ite .rfl (.ite .rfl (evaluated.setBx _) (h.setBx _)) h

theorem bitxDump (h : SameButTallies s t) : SameButTallies (bitxDump s) (bitxDump t) := by
  unfold Machine.bitxDump
  rw [h.bx, h.cfg]
  exact .ite .rfl (h.setBx _) (h.setBx _)

theorem endOfStep (h : SameButTallies s t) : SameButTallies (endOfStep s) (endOfStep t) :=
  h.of_commutes Machine.endOfStep fun _ _ => rfl

/-! ## Character decoders -/

/-- An alpha slot decides for the same character; only which tally it moves shows (R214). -/
theorem fecAlpha (h : SameButTallies s t) (d : BitVec 7) :
    SameButTallies (fecAlpha P d s).1 (fecAlpha P d t).1 ∧ (fecAlpha P d t).2 = (fecAlpha P d s).2 := by
  unfold Machine.fecAlpha
  rw [h.fec]
  split
  · exact ⟨h.countFailure, rfl⟩
  · dsimp only
    rw [h.countSuccess.fec]
    exact ⟨h.countSuccess.setFec _, rfl⟩

theorem fecChar (h : SameButTallies s t) (d : BitVec 7) :
    SameButTallies (fecChar P d s).1 (fecChar P d t).1 ∧ (fecChar P d t).2 = (fecChar P d s).2 := by
  obtain ⟨alpha, same⟩ := h.fecAlpha (P := P) d
  unfold Machine.fecChar
  dsimp only
  rw [h.fec]
  split
  · rw [alpha.fec, same]
    exact ⟨alpha.setFec _, rfl⟩
  · obtain ⟨succ, fail, rfl⟩ := h
    exact ⟨⟨succ, fail, rfl⟩, rfl⟩

theorem ita2Char (h : SameButTallies s t) (d : BitVec 5) :
    SameButTallies (ita2Char P d s).1 (ita2Char P d t).1 ∧ (ita2Char P d t).2 = (ita2Char P d s).2 := by
  simp only [Machine.ita2Char, h.ita2, State.setIta2_ita2]
  split
  · exact ⟨h.setIta2 _, rfl⟩
  · split
    · exact ⟨(h.setIta2 _).setIta2 _, rfl⟩
    · split
      · exact ⟨((h.setIta2 _).setIta2 _).setIta2 _, rfl⟩
      · exact ⟨(h.setIta2 _).setIta2 _, rfl⟩

theorem decRst (h : SameButTallies s t) : SameButTallies (decRst s) (decRst t) := by
  unfold Machine.decRst
  rw [h.cfg]
  split
  · exact h.setFec _
  · exact h.setIta2 _
  · exact h

theorem decChar (h : SameButTallies s t) (code : RawCode) :
    SameButTallies (decChar P code s).1 (decChar P code t).1 ∧ (decChar P code t).2 = (decChar P code s).2 := by
  unfold Machine.decChar
  rw [h.cfg]
  split
  · exact h.fecChar _
  · split
    · have counted : SameButTallies (Machine.countSuccess P s) (Machine.countSuccess P t) := h.countSuccess
      obtain ⟨decoded, same⟩ := counted.ita2Char (P := P) ((frmExtract s.cfg.desc code).truncate 5)
      exact ⟨decoded, by dsimp only; rw [same]⟩
    · exact ⟨h.countFailure, rfl⟩
  · split
    · exact ⟨h.countSuccess, rfl⟩
    · exact ⟨h.countFailure, rfl⟩

/-! ## Frame synchronizer -/

theorem syncClear (h : SameButTallies s t) : SameButTallies (syncClear s) (syncClear t) := by
  unfold Machine.syncClear
  rw [h.sync]
  exact (h.setSync _).decRst

theorem enterNoSignal (h : SameButTallies s t) : SameButTallies (enterNoSignal P s) (enterNoSignal P t) :=
  h.of_commutes (Machine.enterNoSignal P) fun _ _ => by rw [enterNoSignal_frame, enterNoSignal_frame]; rfl

theorem syncSql (h : SameButTallies s t) (present : Bool) :
    SameButTallies (syncSql P present s) (syncSql P present t) := by
  unfold Machine.syncSql
  rw [h.sync]
  exact .ite .rfl (.ite .rfl (h.enterState _) h) (.ite .rfl h h.enterNoSignal)

theorem consumeResync (h : SameButTallies s t) : SameButTallies (consumeResync s) (consumeResync t) := by
  unfold Machine.consumeResync
  dsimp only
  rw [h.sync, h.syncClear.sync]
  exact .ite .rfl (.ite .rfl (h.syncClear.setSync _) ((h.syncClear.setSync _).enterState _)) h

theorem huntBit (h : SameButTallies s t) (bit : Bool) : SameButTallies (huntBit bit s) (huntBit bit t) := by
  have windows := h.setSync { s.sync with
    code := shiftIn s.cfg.msb bit s.sync.code, fill := min s.cfg.T (s.sync.fill + 1) }
  dsimp only at windows
  unfold Machine.huntBit
  dsimp only
  rw [h.sync, h.cfg, windows.sync, windows.cfg, decCheck_congr _ windows.cfg]
  exact .ite .rfl ((windows.setSync _).enterState _) windows

theorem flushOne (h : SameButTallies s t) (code : RawCode) : SameButTallies (flushOne P s code) (flushOne P t code) := by
  obtain ⟨decoded, same⟩ := h.decChar (P := P) code
  show SameButTallies _ (Machine.emitChar (Machine.decChar P code t).2.1 _)
  rw [same]
  exact decoded.emitChar _

theorem flush (h : SameButTallies s t) : SameButTallies (flush P s) (flush P t) := by
  have all (codes : List RawCode) {s t : State} (h : SameButTallies s t) :
      SameButTallies (codes.foldl (Machine.flushOne P) s) (codes.foldl (Machine.flushOne P) t) := by
    induction codes generalizing s t with
    | nil => exact h
    | cons c rest ih => exact ih (h.flushOne c)
  have flushed := all (s.sync.recd.take s.sync.validCount) h
  simp only [Machine.flush, h.sync, flushed.sync]
  exact flushed.setSync _

theorem confirmGroup (h : SameButTallies s t) : SameButTallies (confirmGroup P s) (confirmGroup P t) := by
  unfold Machine.confirmGroup
  rw [h.sync, decCheck_congr s.sync.code h.cfg]
  exact .ite .rfl (.ite .rfl ((h.setSync _).flush.enterState _) (h.setSync _)) (h.setSync _).forceHunting

theorem groupShift (h : SameButTallies s t) (bit : Bool) : SameButTallies (groupShift bit s) (groupShift bit t) := by
  unfold Machine.groupShift
  rw [h.sync, h.cfg]
  exact h.setSync _

theorem confirmBit (h : SameButTallies s t) (bit : Bool) :
    SameButTallies (confirmBit P bit s) (confirmBit P bit t) := by
  have shifted := h.groupShift bit
  unfold Machine.confirmBit
  dsimp only
  rw [shifted.sync, shifted.cfg]
  exact .ite .rfl shifted.confirmGroup shifted

theorem steadyErr (h : SameButTallies s t) (ok : Bool) : SameButTallies (steadyErr P ok s) (steadyErr P ok t) := by
  unfold Machine.steadyErr
  rw [h.sync]
  exact .ite .rfl (.ite .rfl (h.setSync _) h) (.ite .rfl (h.setSync _).forceHunting (h.setSync _))

theorem endGroup (h : SameButTallies s t) : SameButTallies (endGroup s) (endGroup t) := by
  have done : SameButTallies (groupDone s) (groupDone t) := by
    unfold groupDone
    rw [h.sync]
    exact h.setSync _
  unfold Machine.endGroup
  rw [done.cfg, done.sync]
  exact .ite .rfl (done.setSync _) done

theorem steadyGroup (h : SameButTallies s t) : SameButTallies (steadyGroup P s) (steadyGroup P t) := by
  obtain ⟨decoded, same⟩ := h.decChar (P := P) s.sync.code
  rw [steadyGroup_eq, steadyGroup_eq, h.sync, same]
  exact ((decoded.emitChar _).steadyErr _).endGroup

theorem steadyBit (h : SameButTallies s t) (bit : Bool) : SameButTallies (steadyBit P bit s) (steadyBit P bit t) := by
  have shifted := (h.setSync { s.sync with waitSpace := false }).groupShift bit
  unfold Machine.steadyBit
  dsimp only
  rw [h.sync, shifted.sync, shifted.cfg]
  exact .ite .rfl h (.ite .rfl shifted.steadyGroup shifted)

theorem syncBit (h : SameButTallies s t) (bit : Bool) : SameButTallies (syncBit P bit s) (syncBit P bit t) := by
  have consumed := h.consumeResync
  unfold Machine.syncBit
  dsimp only
  rw [consumed.sync]
  split
  · exact consumed
  · exact consumed.huntBit bit
  · exact consumed.confirmBit bit
  · exact consumed.steadyBit bit

theorem syncStep (h : SameButTallies s t) : SameButTallies (syncStep P s) (syncStep P t) := by
  have squelched := h.syncSql (P := P) s.bx.signalPresent
  unfold Machine.syncStep
  dsimp only
  rw [h.bx, squelched.bx]
  exact .ite .rfl (squelched.syncBit _) squelched

theorem receiveCode (h : SameButTallies s t) (n : Nat) (code : RawCode) :
    SameButTallies (receiveCode P n code s) (receiveCode P n code t) := by
  have all (bits : List Bool) {s t : State} (h : SameButTallies s t) :
      SameButTallies (bits.foldl (receiveBit P) s) (bits.foldl (receiveBit P) t) := by
    induction bits generalizing s t with
    | nil => exact h
    | cons b rest ih => exact ih ((h.syncSql true).syncBit b)
  unfold Machine.receiveCode
  rw [h.ctl]
  exact .ite .rfl (all _ (h.setOut [])) h

/-! ## Facade -/

theorem resetAll (h : SameButTallies s t) : SameButTallies (resetAll P s) (resetAll P t) := by
  obtain ⟨succ, fail, rfl⟩ := h
  rw [resetAll_frame, resetAll_frame]
  exact ⟨0, 0, rfl⟩

theorem configureFilters (h : SameButTallies s t) : SameButTallies (configureFilters P s) (configureFilters P t) :=
  h.of_commutes (Machine.configureFilters P) fun _ _ => rfl

theorem construct (h : SameButTallies s t) : SameButTallies (construct P s) (construct P t) := by
  have check : constructCheck P t = constructCheck P s := by simp only [constructCheck, h.ctl, h.ports]
  unfold Machine.construct
  rw [check]
  split
  · exact h.raise _
  · exact (h.setCfg _).configureFilters.resetAll.setCtl _

theorem start (h : SameButTallies s t) : SameButTallies (start s) (start t) := by
  unfold Machine.start
  rw [h.ctl]
  exact .ite .rfl (h.raise _) (.ite .rfl (h.raise _) (h.setCtl _))

theorem stop (h : SameButTallies s t) : SameButTallies (stop s) (stop t) := by
  unfold Machine.stop
  rw [h.ctl]
  exact h.setCtl _

theorem resetCommand (h : SameButTallies s t) : SameButTallies (resetCommand P s) (resetCommand P t) := by
  unfold Machine.resetCommand
  rw [h.ctl]
  exact .ite .rfl (h.raise _) (h.resetAll.raise _)

theorem sampleStep (h : SameButTallies s t) (x : Sample) : SameButTallies (sampleStep P x s) (sampleStep P x t) :=
  ((h.setOut []).bitxLevel x).bitxAcc.bitxZc.bitxCorr.bitxDump.syncStep.endOfStep

theorem sample (h : SameButTallies s t) (x : Sample) : SameButTallies (sample P x s) (sample P x t) := by
  unfold Machine.sample
  rw [h.ctl]
  exact .ite .rfl (h.raise _) (.ite .rfl (h.raise _) ((h.sampleStep x).raise _))

/-! ## Frames and code words -/

theorem receiveFrame (h : SameButTallies s t) (spec : FramingSpec) (data : Nat) :
    SameButTallies (receiveFrame spec data s) (receiveFrame spec data t) := by
  unfold Machine.receiveFrame
  rw [h.params]
  exact h.receiveCode ..

theorem codeWord (h : SameButTallies s t) (enc : Encoding) {call : State → State}
    (hcall : SameButTallies (call s) (call t)) : SameButTallies (codeWord enc call s) (codeWord enc call t) := by
  unfold Machine.codeWord decoding
  rw [h.ctl, h.cfg, h.sync]
  exact .ite .rfl hcall h

theorem fecCall (h : SameButTallies s t) (d : BitVec 7) : SameButTallies (fecCall d s) (fecCall d t) := by
  obtain ⟨decoded, same⟩ := h.fecChar (P := s.params) d
  unfold Machine.fecCall
  rw [h.params]
  exact decoded.setCharOk same

theorem ita2Call (h : SameButTallies s t) (d : BitVec 5) : SameButTallies (ita2Call d s) (ita2Call d t) := by
  obtain ⟨decoded, same⟩ := h.ita2Char (P := s.params) d
  unfold Machine.ita2Call
  rw [h.params]
  exact decoded.setRet (congrArg OpResult.char same)

theorem ascCall (h : SameButTallies s t) (d : DataCode) : SameButTallies (ascCall d s) (ascCall d t) := by
  unfold Machine.ascCall
  rw [h.cfg]
  exact h.setRet rfl

theorem fecWord (h : SameButTallies s t) (d : BitVec 7) : SameButTallies (fecWord d s) (fecWord d t) :=
  h.codeWord _ (h.fecCall d)

theorem ita2Word (h : SameButTallies s t) (d : BitVec 5) : SameButTallies (ita2Word d s) (ita2Word d t) :=
  h.codeWord _ (h.ita2Call d)

theorem asciiWord (h : SameButTallies s t) (d : DataCode) : SameButTallies (asciiWord d s) (asciiWord d t) :=
  h.codeWord _ (h.ascCall d)

end SameButTallies

/-! ## Every instruction -/

/-- Every instruction leads two states that differ in the tallies alone to two such states (R45, R303). -/
theorem exec_sameButTallies {i : Instr} {s t s' : State} (h : SameButTallies s t) (hs : exec i s = .next s') :
    ∃ t', exec i t = .next t' ∧ SameButTallies s' t' := by
  obtain ⟨succ, fail, rfl⟩ := h
  have h : SameButTallies s (s.withTallies succ fail) := ⟨succ, fail, rfl⟩
  cases i with
  | construct _ => cases hs; exact ⟨_, rfl, h.construct⟩
  | start _ => cases hs; exact ⟨_, rfl, h.start⟩
  | stop _ => cases hs; exact ⟨_, rfl, h.stop⟩
  | reset _ => cases hs; exact ⟨_, rfl, h.resetCommand⟩
  | sample x => cases hs; exact ⟨_, rfl, h.sample x⟩
  | filtCfg f kind fr sr q => cases hs; exact ⟨_, rfl, h.filtCfg f kind fr sr q⟩
  | filtRst f => cases hs; exact ⟨_, rfl, h.filtRst f⟩
  | filtRun f x =>
    obtain ⟨ran, same⟩ := h.filtRun (P := s.params) f x
    cases hs
    exact ⟨_, rfl, ran.setRet (congrArg OpResult.number same)⟩
  | bitxLevel x => cases hs; exact ⟨_, rfl, h.bitxLevel x⟩
  | bitxAcc => cases hs; exact ⟨_, rfl, h.bitxAcc⟩
  | bitxZc => cases hs; exact ⟨_, rfl, h.bitxZc⟩
  | bitxCorr => cases hs; exact ⟨_, rfl, h.bitxCorr⟩
  | bitxDump => cases hs; exact ⟨_, rfl, h.bitxDump⟩
  | syncSql present => cases hs; exact ⟨_, rfl, h.syncSql present⟩
  | syncBit bit => cases hs; exact ⟨_, rfl, h.syncBit bit⟩
  | sampleStep x => cases hs; exact ⟨_, rfl, h.sampleStep x⟩
  | decChar code =>
    obtain ⟨decoded, same⟩ := h.decChar (P := s.params) code
    cases hs
    exact ⟨_, rfl, decoded.setCharOk same⟩
  | decRst => cases hs; exact ⟨_, rfl, h.decRst⟩
  | fecChar d => cases hs; exact ⟨_, rfl, h.fecCall d⟩
  | ita2Char d => cases hs; exact ⟨_, rfl, h.ita2Call d⟩
  | fecRst => cases hs; exact ⟨_, rfl, h.setFec _⟩
  | ita2Rst => cases hs; exact ⟨_, rfl, h.setIta2 _⟩
  | ascRst => cases hs; exact ⟨_, rfl, h⟩
  | frmParse | frmCheck | frmCheckDoubled | frmExtract | decCheck | fecCheck | ita2Check | ascCheck | ascChar | getNBits
  | getMsb => cases hs; exact ⟨_, rfl, h.setRet rfl⟩
  | _ =>
    -- the frames, the code words, NOP and the reserved opcodes
    cases hs
    refine ⟨_, rfl, ?_⟩
    simp only [h.receiveFrame, h.fecWord, h.ita2Word, h.asciiWord, h.raise]

/-- Settles O19, by `exec_sameButTallies` for every instruction. -/
theorem talliesDecideNothing : Obligations.TalliesDecideNothing := by
  intro i s t succ fail ht
  obtain ⟨_, hexec, succ', fail', rfl⟩ := exec_sameButTallies ⟨succ, fail, rfl⟩ ht
  exact ⟨succ', fail', hexec⟩

end Sys2Proof.Machine
end

section
/-! The bits of a frame at a group boundary in SteadyState assemble to its word (R35, R64, R89, R170, R172). -/

namespace Sys2Proof.Machine

/-! ## The rolling register -/

/-- The register after these bits, oldest first (R35, R64). -/
def shiftInAll (msb : RawCode) (bits : List Bool) (code : RawCode) : RawCode :=
  bits.foldl (fun c b => shiftIn msb b c) code

/-- A bit of the register after one shift: the bit one place above before it, and at `T - 1` the new bit (R35, R64). -/
theorem shiftIn_getLsbD {T : Nat} (hT : 0 < T) (hle : T ≤ 32) (bit : Bool) (code : RawCode) (j : Nat) :
    (shiftIn ((1 : RawCode) <<< (T - 1)) bit code).getLsbD j
      = (code.getLsbD (j + 1) || (bit && decide (j = T - 1))) := by
  have entry : ((1 : RawCode) <<< (T - 1)).getLsbD j = decide (j = T - 1) := by
    have in_range : T - 1 < 32 := by omega
    rw [show (1 : RawCode) = 1#32 from rfl, ← BitVec.twoPow_eq, BitVec.getLsbD_twoPow]
    simp only [in_range, decide_true, Bool.true_and, eq_comm]
  rw [shiftIn, BitVec.getLsbD_or, BitVec.getLsbD_ushiftRight, Nat.add_comm 1 j]
  cases bit with
  | true => rw [if_pos rfl, entry, Bool.true_and]
  | false => simp

/-- After `k` bits of a code, from an empty register, its low `k` bits stand at the top of the register. -/
theorem shiftInAll_getLsbD {T : Nat} (hle : T ≤ 32) (code : RawCode) (j : Nat) {k : Nat} (hk : k ≤ T) :
    (shiftInAll ((1 : RawCode) <<< (T - 1)) (arrivalBits k code) 0).getLsbD j
      = (decide (T ≤ j + k ∧ j < T) && code.getLsbD (j + k - T)) := by
  induction k generalizing j with
  | zero =>
    have outside : ¬(T ≤ j + 0 ∧ j < T) := by omega
    rw [decide_eq_false outside, Bool.false_and]
    exact BitVec.getLsbD_zero
  | succ k ih =>
    have last : shiftInAll ((1 : RawCode) <<< (T - 1)) (arrivalBits (k + 1) code) 0
        = shiftIn ((1 : RawCode) <<< (T - 1)) (code.getLsbD k)
          (shiftInAll ((1 : RawCode) <<< (T - 1)) (arrivalBits k code) 0) := by
      simp only [shiftInAll, arrivalBits, List.range_succ, List.map_append, List.foldl_append]
      rfl
    rw [last, shiftIn_getLsbD (by omega) hle, ih (j + 1) (by omega)]
    by_cases htop : j = T - 1
    · have above : ¬(T ≤ j + 1 + k ∧ j + 1 < T) := by omega
      have inside : T ≤ j + (k + 1) ∧ j < T := by omega
      have place : j + (k + 1) - T = k := by omega
      rw [decide_eq_false above, decide_eq_true inside, decide_eq_true htop, place, Bool.false_and, Bool.false_or,
        Bool.and_true, Bool.true_and]
    · have place : j + 1 + k - T = j + (k + 1) - T := by omega
      have same : (T ≤ j + 1 + k ∧ j + 1 < T) ↔ (T ≤ j + (k + 1) ∧ j < T) := by omega
      simp only [place, same, htop, decide_false, Bool.and_false, Bool.or_false]

/-- The `T` bits of a code of `T` bits assemble to the code (R35, R64, R99). -/
theorem shiftInAll_arrivalBits {T : Nat} (hle : T ≤ 32) {code : RawCode} (hcode : code.toNat < 2 ^ T) :
    shiftInAll ((1 : RawCode) <<< (T - 1)) (arrivalBits T code) 0 = code := by
  refine BitVec.eq_of_getLsbD_eq fun j _ => ?_
  rw [shiftInAll_getLsbD hle code j le_rfl, Nat.add_sub_cancel]
  by_cases hj : j < T
  · have inside : T ≤ j + T ∧ j < T := by omega
    simp only [inside, and_self, decide_true, Bool.true_and]
  · have above : code.getLsbD j = false := by
      rw [← BitVec.testBit_toNat]
      exact Nat.testBit_lt_two_pow (hcode.trans_le (Nat.pow_le_pow_right (by decide) (by omega)))
    rw [above, Bool.and_false]

/-! ## One group, bit by bit -/

/-- The state with this much of a group received and no wait armed (R170, R172). -/
def withGroup (code : RawCode) (count : Nat) (s : State) : State :=
  s.setSync { s.sync with code := code, bitCount := count, waitSpace := false }

section
variable {P : Params} {s : State}

/-- In SteadyState with the flag down a received bit goes straight to the group (R163, R170). -/
theorem receiveBit_steady (hstate : s.sync.state = .steadyState) (hresync : s.sync.resync = false) (bit : Bool) :
    receiveBit P s bit = steadyBit P bit s := by
  have awake : syncSql P true s = s := by
    rw [syncSql, if_pos rfl, if_neg]
    rw [hstate]
    decide
  have armed : consumeResync s = s := by
    rw [consumeResync, hresync, if_neg (by decide)]
  rw [receiveBit, awake, syncBit, armed, hstate]

/-- A bit that the wait does not discard enters the group; the last one completes it (R170, R172). -/
theorem steadyBit_enters {bit : Bool} (hwait : (s.sync.waitSpace && bit) = false) :
    steadyBit P bit s =
      let s' := withGroup (shiftIn s.cfg.msb bit s.sync.code) (s.sync.bitCount + 1) s
      if s.sync.bitCount + 1 = s.cfg.T then steadyGroup P s' else s' := by
  rw [steadyBit, hwait, if_neg (by decide)]
  rfl

/-- The bits that complete a group are decoded as one group of the assembled code (R170). -/
theorem receiveBits_completeGroup (bits : List Bool) (hne : bits ≠ []) (hstate : s.sync.state = .steadyState)
    (hresync : s.sync.resync = false) (hcount : s.sync.bitCount + bits.length = s.cfg.T)
    (hwait : ∀ b ∈ bits.head?, (s.sync.waitSpace && b) = false) :
    bits.foldl (receiveBit P) s
      = steadyGroup P (withGroup (shiftInAll s.cfg.msb bits s.sync.code) s.cfg.T s) := by
  induction bits generalizing s with
  | nil => exact absurd rfl hne
  | cons b rest ih =>
    rw [List.foldl_cons, receiveBit_steady hstate hresync, steadyBit_enters (hwait b rfl)]
    rw [List.length_cons] at hcount
    cases rest with
    | nil =>
      have full : s.sync.bitCount + 1 = s.cfg.T := hcount
      rw [if_pos full, full]
      rfl
    | cons c rest =>
      rw [List.length_cons] at hcount
      rw [if_neg (by omega)]
      exact ih (s := withGroup (shiftIn s.cfg.msb b s.sync.code) (s.sync.bitCount + 1) s) (List.cons_ne_nil c rest) hstate
        hresync (by simp only [withGroup, State.setSync_sync, State.setSync_cfg, List.length_cons]; omega)
        (fun _ _ => rfl)

/-- The bits of a `T`-bit code at a group boundary in SteadyState (R64, R170). -/
theorem receiveCode_steady {T : Nat} {code : RawCode} (hpos : 0 < T) (hle : T ≤ 32) (hcode : code.toNat < 2 ^ T)
    (hrun : s.ctl.constructed = true ∧ s.ctl.running = true) (hT : s.cfg.T = T)
    (hmsb : s.cfg.msb = (1 : RawCode) <<< (T - 1)) (hstate : s.sync.state = .steadyState)
    (hresync : s.sync.resync = false) (hcount : s.sync.bitCount = 0) (hempty : s.sync.code = 0)
    (hwait : (s.sync.waitSpace && code.getLsbD 0) = false) :
    receiveCode P T code s = steadyGroup P (withGroup code T (s.setOut [])) := by
  have length : (arrivalBits T code).length = T := by rw [arrivalBits, List.length_map, List.length_range]
  have first : (arrivalBits T code).head? = some (code.getLsbD 0) := by
    obtain ⟨n, rfl⟩ := Nat.exists_eq_add_of_lt hpos
    simp [arrivalBits, List.range_succ_eq_map]
  have assembled : shiftInAll s.cfg.msb (arrivalBits T code) s.sync.code = code := by
    rw [hmsb, hempty]
    exact shiftInAll_arrivalBits hle hcode
  have group := receiveBits_completeGroup (P := P) (s := s.setOut []) (arrivalBits T code)
    (by rw [← List.length_pos_iff, length]; exact hpos) hstate hresync
    (by rw [length]; show s.sync.bitCount + T = s.cfg.T; omega)
    (by rw [first]; rintro _ ⟨⟩; exact hwait)
  rw [receiveCode, hrun.1, hrun.2, if_pos (by decide), group]
  show steadyGroup P (withGroup (shiftInAll s.cfg.msb _ s.sync.code) s.cfg.T _) = _
  rw [assembled, hT]

end

/-! ## The word of a frame -/

/-- The number of data bits of a frame (R84 to R88). -/
def dataWidth : FramingSpec → Nat
  | .async d _ _ => d.count
  | .fourOfSeven => 7

theorem encode_frameRow (spec : FramingSpec) (data : DataCode) :
    encode (frameRow spec data) = some (.frame spec, encodeFrame spec (data.toNat % 2 ^ dataWidth spec)) := by
  cases spec with
  | fourOfSeven => rfl
  | async d st efr =>
    have h8 : data.toNat % 2 ^ DataBits.eight.count = data.toNat := Nat.mod_eq_of_lt data.isLt
    cases d with
    | five => cases st <;> cases efr <;> rfl
    | seven => cases st <;> cases efr <;> rfl
    | eight => rw [dataWidth, h8]; cases st <;> cases efr <;> rfl

theorem exec_frameRow (spec : FramingSpec) (data : DataCode) (s : State) :
    exec (frameRow spec data) s = .next (receiveFrame spec (data.toNat % 2 ^ dataWidth spec) s) := by
  cases spec with
  | fourOfSeven => exact exec_frameRow_group data s
  | async d st efr => exact exec_frameRow_async d st efr data s

/-- The word of a frame has `T` bits (R89). -/
theorem encodeFrame_fits (spec : FramingSpec) {data : Nat} (h : data < 2 ^ dataWidth spec) :
    (encodeFrame spec data).toNat < 2 ^ spec.totalBits := by
  cases spec with
  | fourOfSeven => exact Laws.EncodingWidth.group_fits ⟨⟨data, h⟩⟩
  | async d st efr =>
    cases st with
    | one => exact Laws.EncodingWidth.async_fits h
    | two => exact Laws.EncodingWidth.async_fits h
    | oneAndHalf =>
      cases d with
      | five => exact Laws.EncodingWidth.async2_fits_five ⟨⟨data, h⟩⟩
      | seven => exact Laws.EncodingWidth.async2_fits_seven ⟨⟨data, h⟩⟩
      | eight => exact Laws.EncodingWidth.async2_fits_eight ⟨⟨data, h⟩⟩

/-- An even number as a word has bit 0 clear. -/
theorem getLsbD_zero_of_even {n : Nat} (h : 2 ∣ n) : (BitVec.ofNat 32 n).getLsbD 0 = false := by
  obtain ⟨m, rfl⟩ := h
  have even : 2 * m % 2 ^ 32 % 2 = 0 := by omega
  rw [← BitVec.testBit_toNat, BitVec.toNat_ofNat, Nat.testBit_zero, even]
  rfl

/-- Every asynchronous frame begins with a space, its start bit (R84, R85). -/
theorem encodeFrame_startBit (d : DataBits) (st : StopBits) (efr : Bool) (data : Nat) :
    (encodeFrame (.async d st efr) data).getLsbD 0 = false := by
  have plain (stop : Nat) : (encodeAsync d.count stop data).getLsbD 0 = false :=
    getLsbD_zero_of_even (Nat.dvd_add (Dvd.dvd.mul_left (dvd_pow_self 2 (by omega)) _) (Nat.dvd_mul_left ..))
  have doubled : (encodeAsync2 d.count data).getLsbD 0 = false := by
    have pairs (l : List Nat) (v : Nat) (hv : 2 ∣ v) :
        2 ∣ l.foldl (fun v i => v + 3 * 2 ^ (2 * i + 2) * (data / 2 ^ i % 2)) v := by
      induction l generalizing v with
      | nil => exact hv
      | cons i rest ih =>
        exact ih _ (Nat.dvd_add hv (Dvd.dvd.mul_right (Dvd.dvd.mul_left (dvd_pow_self 2 (by omega)) _) _))
    exact getLsbD_zero_of_even (Nat.dvd_add (Dvd.dvd.mul_left (dvd_pow_self 2 (by omega)) _) (pairs _ 0 (dvd_zero 2)))
  cases st with
  | one => exact plain 1
  | two => exact plain 2
  | oneAndHalf => exact doubled

/-- Settles O47: the bits of the frame's word complete one group, and the register then holds the word. -/
theorem frameArrivesAsOneGroup : Obligations.FrameArrivesAsOneGroup := by
  intro spec data s hconstructed hrunning hdesc hT hmsb hstate hresync hcount hempty hgroup
  have hdata : data.toNat % 2 ^ dataWidth spec < 2 ^ dataWidth spec := Nat.mod_lt _ (Nat.two_pow_pos _)
  have hpos : 0 < spec.totalBits := descriptorOf_totalBits spec ▸ descriptorOf_totalBits_pos spec
  have hle := totalBits_le spec
  refine ⟨_, encode_frameRow spec data, ?_⟩
  rw [exec_frameRow, receiveFrame, receiveCode_steady hpos (by omega) (encodeFrame_fits spec hdata)
    ⟨hconstructed, hrunning⟩ hT hmsb hstate hresync hcount hempty]
  · rfl
  · cases spec with
    | fourOfSeven => rw [hgroup rfl, Bool.false_and]
    | async d st efr => rw [encodeFrame_startBit, Bool.and_false]

end Sys2Proof.Machine
end

section
/-! The words of the block and what they mean: for each space, the encoder's word is the one the decoder reads, and the
only one (R82, R84 to R92); the frame decoder reads what the framing validator accepts (R194, R195). -/

namespace Sys2Proof.Machine

theorem bitsAt_lt (w : RawCode) (lo len : Nat) : bitsAt w lo len < 2 ^ len := Nat.mod_lt _ (Nat.two_pow_pos len)

/-! ## Command words (R81, R82) -/

/-- The row of an opcode. -/
def commandRow (op : Nat) (imm : Sample) : Instr :=
  match op with
  | 0 => .nop imm
  | 1 => .construct imm
  | 2 => .start imm
  | 3 => .stop imm
  | 4 => .reset imm
  | 5 => .sample imm
  | 6 => .reservedOp6 imm
  | 7 => .reservedOp7 imm
  | 8 => .reservedOp8 imm
  | 9 => .reservedOp9 imm
  | 10 => .reservedOpA imm
  | 11 => .reservedOpB imm
  | 12 => .reservedOpC imm
  | 13 => .reservedOpD imm
  | 14 => .reservedOpE imm
  | _ => .reservedOpF imm

theorem decodeCommand_eq (w : RawCode) : decodeCommand w = commandRow (bitsAt w 16 4) (w.truncate 16) := rfl

theorem encode_commandRow {op : Nat} (hop : op < 16) (imm : Sample) :
    encode (commandRow op imm) = some (.command, encodeCommand op imm) := by
  interval_cases op <;> rfl

theorem encodeCommand_toNat {op : Nat} (hop : op < 16) (imm : Sample) :
    (encodeCommand op imm).toNat = op * 2 ^ 16 + imm.toNat := by
  have := imm.isLt
  rw [encodeCommand, BitVec.toNat_ofNat, Nat.mod_eq_of_lt (by omega)]

theorem decode_encodeCommand {op : Nat} (hop : op < 16) (imm : Sample) :
    decode .command (encodeCommand op imm) = .ok (commandRow op imm) := by
  have value := encodeCommand_toNat hop imm
  have himm := imm.isLt
  have opcode : bitsAt (encodeCommand op imm) 16 4 = op := by rw [bitsAt, value]; omega
  have operand : (encodeCommand op imm).truncate 16 = imm := by
    apply BitVec.eq_of_toNat_eq
    rw [BitVec.truncate_eq_setWidth, BitVec.toNat_setWidth, value]
    omega
  rw [decode, if_pos (Laws.EncodingWidth.command_fits op imm hop)]
  show Except.ok (decodeCommand _) = _
  rw [decodeCommand_eq, opcode, operand]

/-- A command word is its opcode and its operand, nothing else. -/
theorem encodeCommand_fields {w : RawCode} (hw : w.toNat < 2 ^ 20) :
    encodeCommand (bitsAt w 16 4) (w.truncate 16) = w := by
  apply BitVec.eq_of_toNat_eq
  rw [encodeCommand_toNat (bitsAt_lt w 16 4), bitsAt, BitVec.truncate_eq_setWidth, BitVec.toNat_setWidth]
  omega

theorem encode_decodeCommand {w : RawCode} (hw : w.toNat < 2 ^ 20) :
    encode (decodeCommand w) = some (.command, w) := by
  rw [decodeCommand_eq, encode_commandRow (bitsAt_lt w 16 4), encodeCommand_fields hw]

/-- An opcode of 6 or more is reserved: BAD_COMMAND and no other effect (R83, R291). -/
theorem exec_commandRow_reserved {op : Nat} (hlow : 6 ≤ op) (hop : op < 16) (imm : Sample) (s : State) :
    exec (commandRow op imm) s = .next (raise .badCommand s) := by
  interval_cases op <;> rfl

/-- Settles O8: the reserved opcodes by `exec_commandRow_reserved`, their words by `decode_encodeCommand`. -/
theorem reservedOpcodesBadCommand : Obligations.ReservedOpcodesBadCommand := by
  intro imm s
  refine ⟨?_, fun op hlow hop => ⟨commandRow op imm, decode_encodeCommand hop imm,
    exec_commandRow_reserved hlow hop imm s⟩, rfl, rfl, rfl, rfl, rfl⟩
  simp only [List.forall_mem_cons, List.not_mem_nil, false_implies, implies_true, and_true]
  exact ⟨rfl, rfl, rfl, rfl, rfl, rfl, rfl, rfl, rfl, rfl⟩

/-! ## Code words (R90 to R92) -/

theorem encode_decodeIta2 (d : BitVec 5) : encode (decodeIta2 d) = some (.ita2, d.zeroExtend 32) := by
  obtain ⟨⟨n, hn⟩⟩ := d
  change n < 32 at hn
  interval_cases n <;> rfl

theorem encode_decodeCcir476 (d : BitVec 7) : encode (decodeCcir476 d) = some (.ccir476, d.zeroExtend 32) := by
  obtain ⟨⟨n, hn⟩⟩ := d
  change n < 128 at hn
  interval_cases n <;> rfl

/-- A word with no bit beyond a width is its own low part. -/
theorem zeroExtend_truncate {n : Nat} {w : RawCode} (hw : w.toNat < 2 ^ n) : (w.truncate n).zeroExtend 32 = w := by
  apply BitVec.eq_of_toNat_eq
  simp only [BitVec.truncate_eq_setWidth, BitVec.toNat_setWidth, Nat.mod_eq_of_lt hw, Nat.mod_eq_of_lt w.isLt]

theorem zeroExtend_fits {n : Nat} (hn : n ≤ 32) (d : BitVec n) : (d.zeroExtend 32).toNat < 2 ^ n :=
  (BitVec.toNat_setWidth_of_le hn).trans_lt d.isLt

theorem truncate_zeroExtend {n : Nat} (hn : n ≤ 32) (d : BitVec n) : (d.zeroExtend 32).truncate n = d := by
  simp [BitVec.setWidth_setWidth_of_le d hn]

theorem decode_asciiCode7 (d : BitVec 7) : decode .ascii7 (d.zeroExtend 32) = .ok (.asciiCode7 d) := by
  have fits : (d.zeroExtend 32).toNat < 2 ^ Space.ascii7.width :=
    zeroExtend_fits (by decide) d
  rw [decode, if_pos fits, truncate_zeroExtend (by decide)]

theorem decode_asciiCode8 (d : BitVec 8) : decode .ascii8 (d.zeroExtend 32) = .ok (.asciiCode8 d) := by
  have fits : (d.zeroExtend 32).toNat < 2 ^ Space.ascii8.width :=
    zeroExtend_fits (by decide) d
  rw [decode, if_pos fits, truncate_zeroExtend (by decide)]

/-- Settles O3, word by word. -/
theorem specWordsDecode : Obligations.SpecWordsDecode := by
  refine ⟨rfl, rfl, rfl, rfl, ?_, ?_, ?_, ?_, ?_, ?_, rfl, rfl, rfl, rfl⟩
  all_goals decide

/-! ## Every word leads to a next state (R93, R294) -/

theorem decode_ne_wordTooWide {sp : Space} {w : RawCode} (hw : w.toNat < 2 ^ sp.width) :
    decode sp w ≠ .error .wordTooWide := by
  cases sp with
  | frame spec =>
    rw [decode, if_pos hw, decodeFrame]
    cases frameData spec w <;> nofun
  | _ =>
    rw [decode, if_pos hw]
    nofun

theorem runWord_total {sp : Space} {w : RawCode} (hw : w.toNat < 2 ^ sp.width) (s : State) :
    ∃ t, runWord sp w s = .next t := by
  unfold runWord
  split
  case h_1 i _ => exact exec_total i s
  case h_2 wide => exact absurd wide (decode_ne_wordTooWide hw)
  case h_3 => cases sp <;> exact ⟨_, rfl⟩

/-- Settles O6, by the kind of the oldest entry of the inbox. -/
theorem noInputStopsTheMachine : Obligations.NoInputStopsTheMachine := by
  intro s fits
  rw [step, runInbox]
  split
  case h_1 => exact ⟨_, rfl⟩
  case h_2 => exact ⟨_, rfl⟩
  case h_3 sp w rest inbox => exact runWord_total (fits sp w rest inbox) _

end Sys2Proof.Machine
end
section
/-! The words of the received frames: data bits, single and doubled, with their start and stop field (R84 to R89). -/

namespace Sys2Proof.Machine

/-! ## Digits -/

/-- The digits of a number in a base, summed at their places, are the number's remainder. -/
theorem sum_digits (B n d : Nat) : ∑ i ∈ Finset.range d, B ^ i * (n / B ^ i % B) = n % B ^ d := by
  induction d with
  | zero => rw [Finset.sum_range_zero, Nat.pow_zero, Nat.mod_one]
  | succ d ih => rw [Finset.sum_range_succ, ih, ← Nat.mod_pow_succ]

theorem sum_digits_lt {B : Nat} {c : Nat → Nat} (hc : ∀ i, c i < B) (d : Nat) :
    ∑ i ∈ Finset.range d, B ^ i * c i < B ^ d := by
  induction d with
  | zero => simp
  | succ d ih =>
    have digit : B ^ d * (c d + 1) ≤ B ^ d * B := Nat.mul_le_mul_left _ (hc d)
    rw [Finset.sum_range_succ, Nat.pow_succ]
    rw [Nat.mul_add, Nat.mul_one] at digit
    omega

/-- The digit at a place of a sum of digits, whatever stands above the sum. -/
theorem digit_sum_digits {B : Nat} {c : Nat → Nat} (hc : ∀ i, c i < B) {i d : Nat} (hi : i < d) (top : Nat) :
    (∑ j ∈ Finset.range d, B ^ j * c j + B ^ d * top) / B ^ i % B = c i := by
  have hB : 0 < B := Nat.zero_lt_of_lt (hc 0)
  induction d generalizing top with
  | zero => exact absurd hi (Nat.not_lt_zero i)
  | succ d ih =>
    have regroup : ∑ j ∈ Finset.range (d + 1), B ^ j * c j + B ^ (d + 1) * top
        = ∑ j ∈ Finset.range d, B ^ j * c j + B ^ d * (c d + B * top) := by
      rw [Finset.sum_range_succ]
      ring
    rw [regroup]
    rcases Nat.lt_succ_iff_lt_or_eq.mp hi with below | rfl
    · exact ih below _
    · rw [Nat.add_mul_div_left _ _ (Nat.pow_pos hB), Nat.div_eq_of_lt (sum_digits_lt hc i), Nat.zero_add,
        Nat.add_mul_mod_self_left, Nat.mod_eq_of_lt (hc i)]

theorem foldl_add_eq_sum (f : Nat → Nat) (d : Nat) :
    (List.range d).foldl (fun v i => v + f i) 0 = ∑ i ∈ Finset.range d, f i := by
  induction d with
  | zero => rfl
  | succ d ih => rw [List.range_succ, List.foldl_append, ih, Finset.sum_range_succ]; rfl

/-! ## Single bits (R84, R86) -/

section
variable {d stop : Nat}

/-- Format ASYNC as a number: the start bit 0, the data field and the stop bits (R84). -/
theorem encodeAsync_toNat (hd : d ≤ 8) (hstop : stop ≤ 2) {data : Nat} (hdata : data < 2 ^ d) :
    (encodeAsync d stop data).toNat = 2 * (2 ^ d * (2 ^ stop - 1) + data) := by
  have value : (2 ^ stop - 1) * 2 ^ (1 + d) + data * 2 = 2 * (2 ^ d * (2 ^ stop - 1) + data) := by ring
  have low : 2 ^ d * (2 ^ stop - 1) ≤ 2 ^ 8 * (2 ^ 2 - 1) :=
    Nat.mul_le_mul (Nat.pow_le_pow_right (by decide) hd) (Nat.sub_le_sub_right (Nat.pow_le_pow_right (by decide) hstop) 1)
  have field : 2 ^ d ≤ 2 ^ 8 := Nat.pow_le_pow_right (by decide) hd
  rw [encodeAsync, BitVec.toNat_ofNat, value]
  exact Nat.mod_eq_of_lt (by omega)

theorem asyncData_encodeAsync (hd : d ≤ 8) (hstop : stop ≤ 2) {data : Nat} (hdata : data < 2 ^ d) :
    asyncData d stop (encodeAsync d stop data) = some (BitVec.ofNat 8 data) := by
  have value := encodeAsync_toNat hd hstop hdata
  have ones : 2 ^ stop - 1 < 2 ^ stop := Nat.sub_lt (Nat.two_pow_pos stop) (by decide)
  have startBit : bitsAt (encodeAsync d stop data) 0 1 = 0 := by rw [bitsAt, value]; omega
  have stopBits : bitsAt (encodeAsync d stop data) (1 + d) stop = 2 ^ stop - 1 := by
    rw [bitsAt, value, Nat.pow_add, Nat.pow_one, Nat.mul_div_mul_left _ _ (by decide),
      Nat.mul_add_div (Nat.two_pow_pos d), Nat.div_eq_of_lt hdata, Nat.add_zero, Nat.mod_eq_of_lt ones]
  have field : bitsAt (encodeAsync d stop data) 1 d = data := by
    rw [bitsAt, value, Nat.pow_one, Nat.mul_div_cancel_left _ (by decide), Nat.mul_add_mod, Nat.mod_eq_of_lt hdata]
  rw [asyncData, if_pos ⟨startBit, stopBits⟩, field]

/-- A word that matches the pattern of R84 is the encoder's word of its data field. -/
theorem encodeAsync_of_asyncData (hd : d ≤ 8) (hstop : stop ≤ 2) {w : RawCode} (hw : w.toNat < 2 ^ (1 + d + stop))
    {data : DataCode} (h : asyncData d stop w = some data) :
    encodeAsync d stop data.toNat = w ∧ data.toNat < 2 ^ d := by
  rw [asyncData, Option.ite_none_right_eq_some] at h
  obtain ⟨⟨startBit, stopBits⟩, hfield⟩ := h
  obtain rfl := Option.some.inj hfield
  have hsmall : w.toNat / 2 % 2 ^ d < 2 ^ d := Nat.mod_lt _ (Nat.two_pow_pos d)
  have width : 2 ^ d ≤ 2 ^ 8 := Nat.pow_le_pow_right (by decide) hd
  have hdata : (BitVec.ofNat 8 (bitsAt w 1 d)).toNat = w.toNat / 2 % 2 ^ d := Nat.mod_eq_of_lt (hsmall.trans_le width)
  have high : w.toNat / 2 / 2 ^ d = 2 ^ stop - 1 := by
    rw [Nat.div_div_eq_div_mul, ← Nat.pow_succ', Nat.succ_eq_one_add, ← stopBits, bitsAt, Nat.mod_eq_of_lt]
    exact Nat.div_lt_of_lt_mul (by rw [← Nat.pow_add]; exact hw)
  refine ⟨BitVec.eq_of_toNat_eq ?_, hdata ▸ hsmall⟩
  rw [bitsAt] at startBit
  rw [hdata, encodeAsync_toNat hd hstop hsmall, ← high, Nat.div_add_mod]
  omega

end

/-! ## Doubled bits (R85, R87) -/

section
variable {d : Nat}

/-- A field at a pair of a doubled word. -/
theorem bitsAt_pair (w : RawCode) (i len : Nat) : bitsAt w (2 * i + 2) len = w.toNat / 4 / 4 ^ i % 2 ^ len := by
  have place : 2 ^ (2 * i + 2) = 4 * 4 ^ i := by rw [Nat.pow_add, Nat.pow_mul, Nat.mul_comm]
  rw [bitsAt, place, Nat.div_div_eq_div_mul]

/-- The data bits as a data field: bit `i` has weight `2^i` (R87). -/
theorem async2Data_eq_some {w : RawCode} {data : DataCode} :
    async2Data d w = some data ↔
      w.toNat % 4 = 0 ∧ w.toNat / 4 / 4 ^ d % 8 = 7
        ∧ (∀ i < d, w.toNat / 4 / 4 ^ i % 4 = 0 ∨ w.toNat / 4 / 4 ^ i % 4 = 3)
        ∧ BitVec.ofNat 8 (∑ i ∈ Finset.range d, 2 ^ i * (w.toNat / 4 / 4 ^ i % 2)) = data := by
  have startPair : bitsAt w 0 2 = w.toNat % 4 := congrArg (· % 4) (Nat.div_one _)
  simp only [async2Data, Option.ite_none_right_eq_some, Option.some.injEq, bitsAt_pair, startPair, foldl_add_eq_sum,
    List.all_eq_true, List.mem_range, Bool.or_eq_true, decide_eq_true_eq, and_assoc, Nat.pow_one, Nat.reducePow]

/-- Format ASYNC2 as a number: the start pair 0, every data bit as a pair 0 or 3, and the stop field 7 (R85). -/
theorem encodeAsync2_toNat (hd : d ≤ 8) (data : Nat) :
    (encodeAsync2 d data).toNat
      = 4 * (∑ i ∈ Finset.range d, 4 ^ i * (3 * (data / 2 ^ i % 2)) + 4 ^ d * 7) := by
  have pair (i : Nat) : 3 * (data / 2 ^ i % 2) < 4 := by omega
  have body := sum_digits_lt pair d
  have width : 4 ^ d ≤ 4 ^ 8 := Nat.pow_le_pow_right (by decide) hd
  have term (i : Nat) : 3 * 2 ^ (2 * i + 2) * (data / 2 ^ i % 2) = 4 * (4 ^ i * (3 * (data / 2 ^ i % 2))) := by
    rw [Nat.pow_add, Nat.pow_mul]
    ring
  have top : 7 * 2 ^ (2 * d + 2) = 4 * (4 ^ d * 7) := by
    rw [Nat.pow_add, Nat.pow_mul]
    ring
  rw [encodeAsync2, BitVec.toNat_ofNat, foldl_add_eq_sum, top, Finset.sum_congr rfl fun i _ => term i, ← Finset.mul_sum,
    ← Nat.mul_add, Nat.add_comm (4 ^ d * 7)]
  exact Nat.mod_eq_of_lt (by omega)

theorem async2Data_encodeAsync2 (hd : d ≤ 8) {data : Nat} (hdata : data < 2 ^ d) :
    async2Data d (encodeAsync2 d data) = some (BitVec.ofNat 8 data) := by
  have bound (i : Nat) : 3 * (data / 2 ^ i % 2) < 4 := by omega
  have body : (encodeAsync2 d data).toNat / 4
      = ∑ i ∈ Finset.range d, 4 ^ i * (3 * (data / 2 ^ i % 2)) + 4 ^ d * 7 := by
    rw [encodeAsync2_toNat hd, Nat.mul_div_cancel_left _ (by decide)]
  have pair {i : Nat} (hi : i < d) : (encodeAsync2 d data).toNat / 4 / 4 ^ i % 4 = 3 * (data / 2 ^ i % 2) := by
    rw [body, digit_sum_digits bound hi]
  refine async2Data_eq_some.mpr ⟨?_, ?_, fun i hi => ?_, ?_⟩
  · rw [encodeAsync2_toNat hd, Nat.mul_mod_right]
  · rw [body, Nat.add_mul_div_left _ _ (Nat.pow_pos (by decide)), Nat.div_eq_of_lt (sum_digits_lt bound d)]
  · have := pair hi
    omega
  · have bit (i : Nat) (hi : i ∈ Finset.range d) :
        2 ^ i * ((encodeAsync2 d data).toNat / 4 / 4 ^ i % 2) = 2 ^ i * (data / 2 ^ i % 2) := by
      have := pair (Finset.mem_range.mp hi)
      congr 1
      omega
    rw [Finset.sum_congr rfl bit, sum_digits, Nat.mod_eq_of_lt hdata]

/-- A word that matches the pattern of R85 is the encoder's word of its data field. -/
theorem encodeAsync2_of_async2Data (hd : d ≤ 8) {w : RawCode} (hw : w.toNat < 2 ^ (2 * (1 + d) + 3)) {data : DataCode}
    (h : async2Data d w = some data) : encodeAsync2 d data.toNat = w ∧ data.toNat < 2 ^ d := by
  obtain ⟨startPair, stopBits, pairs, rfl⟩ := async2Data_eq_some.mp h
  have bit (i : Nat) : w.toNat / 4 / 4 ^ i % 2 < 2 := Nat.mod_lt _ (by decide)
  have hsmall := sum_digits_lt bit d
  have width : 2 ^ d ≤ 2 ^ 8 := Nat.pow_le_pow_right (by decide) hd
  have hdata := Nat.mod_eq_of_lt (hsmall.trans_le width)
  have pair (i : Nat) (hi : i ∈ Finset.range d) :
      4 ^ i * (3 * ((∑ j ∈ Finset.range d, 2 ^ j * (w.toNat / 4 / 4 ^ j % 2)) / 2 ^ i % 2))
        = 4 ^ i * (w.toNat / 4 / 4 ^ i % 4) := by
    have digit := digit_sum_digits bit (Finset.mem_range.mp hi) 0
    have equal := pairs i (Finset.mem_range.mp hi)
    rw [Nat.mul_zero, Nat.add_zero] at digit
    rw [digit]
    congr 1
    omega
  have high : w.toNat / 4 / 4 ^ d = 7 := by
    have size : 2 ^ (2 * (1 + d) + 3) = 4 * (4 ^ d * 8) := by
      rw [Nat.pow_add, Nat.pow_mul, Nat.pow_add]
      ring
    have fits : w.toNat / 4 / 4 ^ d < 8 :=
      Nat.div_lt_of_lt_mul (Nat.div_lt_of_lt_mul (size ▸ hw))
    rw [← stopBits, Nat.mod_eq_of_lt fits]
  refine ⟨BitVec.eq_of_toNat_eq ?_, ?_⟩
  · rw [encodeAsync2_toNat hd, BitVec.toNat_ofNat, hdata, Finset.sum_congr rfl pair, sum_digits, ← high, Nat.mod_add_div]
    omega
  · rw [BitVec.toNat_ofNat, hdata]
    exact hsmall

end

end Sys2Proof.Machine
end

section
/-! Encoder, decoder and framing validator agree on every word (R82 to R93, R194, R195); a valid ASCII frame is its data
(R198, R252). -/

namespace Sys2Proof.Machine

/-! ## Frames (R84 to R89) -/

theorem dataBits_count_le (d : DataBits) : d.count ≤ 8 := by cases d <;> decide

theorem dataWidth_le (spec : FramingSpec) : dataWidth spec ≤ 8 := by
  cases spec with
  | fourOfSeven => decide
  | async d st efr => exact dataBits_count_le d

theorem frameData_encodeFrame (spec : FramingSpec) {data : Nat} (hdata : data < 2 ^ dataWidth spec) :
    frameData spec (encodeFrame spec data) = some (BitVec.ofNat 8 data) := by
  have hd := dataWidth_le spec
  cases spec with
  | fourOfSeven =>
    have hsmall : data < 128 := hdata
    have field : bitsAt (BitVec.ofNat 32 data) 0 7 = data := by rw [bitsAt, BitVec.toNat_ofNat]; omega
    rw [encodeFrame, frameData, field]
  | async d st efr =>
    cases st with
    | one => exact asyncData_encodeAsync hd (by decide) hdata
    | two => exact asyncData_encodeAsync hd (by decide) hdata
    | oneAndHalf => exact async2Data_encodeAsync2 hd hdata

/-- A word with a data field is the encoder's word of that field. -/
theorem encodeFrame_of_frameData {spec : FramingSpec} {w : RawCode} (hw : w.toNat < 2 ^ spec.totalBits)
    {data : DataCode} (h : frameData spec w = some data) :
    encodeFrame spec data.toNat = w ∧ data.toNat < 2 ^ dataWidth spec := by
  have hd := dataWidth_le spec
  cases spec with
  | fourOfSeven =>
    obtain rfl := Option.some.inj h
    have hsmall : w.toNat < 128 := hw
    have value : (BitVec.ofNat 8 (bitsAt w 0 7)).toNat = w.toNat := by rw [BitVec.toNat_ofNat, bitsAt]; omega
    rw [value]
    exact ⟨BitVec.eq_of_toNat_eq (Nat.mod_eq_of_lt w.isLt), hw⟩
  | async d st efr =>
    cases st with
    | one => exact encodeAsync_of_asyncData hd (by decide) hw h
    | two => exact encodeAsync_of_asyncData hd (by decide) hw h
    | oneAndHalf => exact encodeAsync2_of_async2Data hd hw h

theorem decode_frame {spec : FramingSpec} {w : RawCode} (hw : w.toNat < 2 ^ spec.totalBits) :
    decode (.frame spec) w = decodeFrame spec w := if_pos hw

theorem decode_encodeFrame (spec : FramingSpec) (data : BitVec (dataWidth spec)) :
    decode (.frame spec) (encodeFrame spec data.toNat) = .ok (frameRow spec (data.zeroExtend 8)) := by
  rw [decode_frame (encodeFrame_fits spec data.isLt), decodeFrame, frameData_encodeFrame spec data.isLt,
    BitVec.ofNat_toNat]

theorem encode_of_decodeFrame {spec : FramingSpec} {w : RawCode} (hw : w.toNat < 2 ^ spec.totalBits) {i : Instr}
    (h : decodeFrame spec w = .ok i) : encode i = some (.frame spec, w) := by
  rw [decodeFrame] at h
  cases hfield : frameData spec w with
  | none => rw [hfield] at h; cases h
  | some data =>
    rw [hfield] at h
    cases h
    obtain ⟨word, hdata⟩ := encodeFrame_of_frameData hw hfield
    rw [encode_frameRow, Nat.mod_eq_of_lt hdata, word]

/-! ## Every space -/

/-- Only internal operations have a condition of well-formedness, and they have no encoding (R35, R100). -/
theorem wellFormed_of_encode {i : Instr} {p : Space × RawCode} (h : encode i = some p) : i.wellFormed = true := by
  cases i with
  | filtCfg | frmCheck | frmCheckDoubled | frmExtract | decCheck | decChar => cases h
  | _ => rfl

theorem encode_of_decode {sp : Space} {w : RawCode} {i : Instr} (h : decode sp w = .ok i) :
    encode i = some (sp, w) := by
  have hw : w.toNat < 2 ^ sp.width := by
    by_contra wide
    rw [decode.eq_def, if_neg wide] at h
    cases h
  rw [decode.eq_def, if_pos hw] at h
  cases sp with
  | frame spec => exact encode_of_decodeFrame hw h
  | command => cases h; exact encode_decodeCommand hw
  | ita2 => cases h; rw [encode_decodeIta2, zeroExtend_truncate (n := 5) hw]
  | ccir476 => cases h; rw [encode_decodeCcir476, zeroExtend_truncate (n := 7) hw]
  | ascii7 => cases h; rw [encode, zeroExtend_truncate (n := 7) hw]
  | ascii8 => cases h; rw [encode, zeroExtend_truncate (n := 8) hw]

/-- Settles O2, space by space. -/
theorem encodeInvertsDecode : Obligations.EncodeInvertsDecode :=
  fun _ _ _ h => ⟨encode_of_decode h, wellFormed_of_encode (encode_of_decode h)⟩

theorem decode_encodeFrame_row {spec : FramingSpec} {data : BitVec (dataWidth spec)} {i : Instr}
    (row : frameRow spec (data.zeroExtend 8) = i) : decode (.frame spec) (encodeFrame spec data.toNat) = .ok i :=
  row ▸ decode_encodeFrame spec data

/-- The row of a framing takes its data field back out of the 8 bits of a data code (R89, R196). -/
theorem truncate_dataCode {n : Nat} (hn : n ≤ 8) (data : BitVec n) : (data.zeroExtend 8).truncate n = data := by
  simp [BitVec.setWidth_setWidth_of_le data hn]

theorem decode_of_encode {i : Instr} {sp : Space} {w : RawCode} (h : encode i = some (sp, w)) :
    decode sp w = .ok i := by
  cases i with
  | nop imm | construct imm | start imm | stop imm | reset imm | sample imm | reservedOp6 imm | reservedOp7 imm
  | reservedOp8 imm | reservedOp9 imm | reservedOpA imm | reservedOpB imm | reservedOpC imm | reservedOpD imm
  | reservedOpE imm | reservedOpF imm =>
    cases h
    exact decode_encodeCommand (by decide) imm
  | frame5N1 data | frame5N1Efr data | frame5N2 data | frame5N2Efr data | frame5N15 data | frame5N15Efr data =>
    cases h
    exact decode_encodeFrame_row (congrArg _ (truncate_dataCode (n := 5) (by decide) data))
  | frame7N1 data | frame7N1Efr data | frame7N2 data | frame7N2Efr data | frame7N15 data | frame7N15Efr data
  | frame4of7 data =>
    cases h
    exact decode_encodeFrame_row (congrArg _ (truncate_dataCode (n := 7) (by decide) data))
  | frame8N1 data | frame8N1Efr data | frame8N2 data | frame8N2Efr data | frame8N15 data | frame8N15Efr data =>
    cases h
    exact decode_encodeFrame_row (congrArg _ (truncate_dataCode (n := 8) (by decide) data))
  | asciiCode7 code => cases h; exact decode_asciiCode7 code
  | asciiCode8 code => cases h; exact decode_asciiCode8 code
  | _ => cases h <;> rfl

/-- Settles O1: commands by their fields, frames by their data field, code words by value. -/
theorem decodeInvertsEncode : Obligations.DecodeInvertsEncode :=
  fun _ _ _ _ h => decode_of_encode h

/-! ## The framing validator -/

/-- A word has a data field exactly if the validator accepts it (R84, R85, R194, R195). -/
theorem frameData_isSome (d : DataBits) (st : StopBits) (efr : Bool) (w : RawCode) :
    (frameData (.async d st efr) w).isSome = frmCheck (descriptorOf (.async d st efr)) w := by
  have plain (stop : Nat) : (asyncData d.count stop w).isSome
      = decide (bitsAt w 0 1 = 0 ∧ bitsAt w (1 + d.count) stop = 2 ^ stop - 1) := by
    rw [asyncData]
    split <;> simp_all
  cases st with
  | one => exact plain 1
  | two => exact plain 2
  | oneAndHalf =>
    have doubled : (async2Data d.count w).isSome = (decide (bitsAt w 0 2 = 0) && decide (bitsAt w (2 * d.count + 2) 3 = 7)
        && (List.range d.count).all fun i => bitsAt w (2 * i + 2) 2 == 0 || bitsAt w (2 * i + 2) 2 == 3) := by
      rw [async2Data]
      split <;> simp_all
    have place : (descriptorOf (.async d .oneAndHalf efr)).totalBits - 3 = 2 * d.count + 2 := by
      show 2 * (1 + d.count) + 3 - 3 = _
      omega
    rw [frameData, doubled, ← place]
    rfl

/-- Settles O4: both accept the words that have a data field. -/
theorem frameDecoderAgreesWithValidator : Obligations.FrameDecoderAgreesWithValidator := by
  intro d st efr w hw
  rw [decode_frame hw, decodeFrame, ← frameData_isSome]
  cases frameData (.async d st efr) w with
  | none => simp
  | some data => simp

/-- The data code that FRM.EXTRACT returns of a valid frame is its data field (R86, R87, R196). -/
theorem frmExtract_of_frameData {d : DataBits} {st : StopBits} {efr : Bool} {w : RawCode} {data : DataCode}
    (h : frameData (.async d st efr) w = some data) : frmExtract (descriptorOf (.async d st efr)) w = data := by
  have plain {stop : Nat} (h : asyncData d.count stop w = some data) : BitVec.ofNat 8 (bitsAt w 1 d.count) = data := by
    rw [asyncData, Option.ite_none_right_eq_some] at h
    exact Option.some.inj h.2
  cases st with
  | one => exact plain h
  | two => exact plain h
  | oneAndHalf =>
    obtain ⟨-, -, -, value⟩ := async2Data_eq_some.mp h
    have extracted : frmExtract (descriptorOf (.async d .oneAndHalf efr)) w
        = BitVec.ofNat 8 ((List.range d.count).foldl (fun v i => v + bitsAt w (2 * i + 2) 1 * 2 ^ i) 0) := rfl
    have bit (i : Nat) : bitsAt w (2 * i + 2) 1 * 2 ^ i = 2 ^ i * (w.toNat / 4 / 4 ^ i % 2) := by
      rw [bitsAt_pair, Nat.pow_one, Nat.mul_comm]
    rw [extracted, foldl_add_eq_sum, ← value, Finset.sum_congr rfl fun i _ => bit i]

/-! ## A valid ASCII frame (R170 to R172, R198, R252) -/

/-- DEC.CHAR of a valid frame under ASCII: its character, and one success (R198, R252). -/
theorem decChar_ascii {s : State} {code : RawCode} (P : Params) (henc : s.cfg.enc = .ascii)
    (hvalid : frmCheck s.cfg.desc code = true) :
    decChar P code s = (countSuccess P s, some (ascChar s.cfg.desc.dataBits (frmExtract s.cfg.desc code)), true) := by
  rw [decChar, henc]
  exact if_pos hvalid

/-- A structurally valid group pays back one error (R171). -/
theorem steadyErr_ok (P : Params) (s : State) :
    steadyErr P true s = s.setSync { s.sync with errCount := s.sync.errCount - 1 } := by
  rw [steadyErr, if_pos rfl]
  by_cases h : s.sync.errCount > 0
  · rw [if_pos h]
  · have none : s.sync.errCount - 1 = s.sync.errCount := by omega
    rw [if_neg h, none]
    rfl

/-- A group that leaves the block in SteadyState empties the register; `varStop` arms the wait (R170, R172). -/
theorem endGroup_steady {s : State} (h : s.sync.state = .steadyState) :
    endGroup s = s.setSync { s.sync with
      code := 0, bitCount := 0, waitSpace := s.cfg.desc.varStop || s.sync.waitSpace } := by
  have state : (groupDone s).sync.state = .steadyState := h
  have cfg : (groupDone s).cfg = s.cfg := rfl
  cases hv : s.cfg.desc.varStop with
  | true =>
    rw [endGroup, cfg, if_pos ⟨hv, state⟩]
    rfl
  | false =>
    rw [endGroup, cfg, hv, if_neg nofun]
    rfl

/-- A valid group under ASCII in SteadyState: its character, one success, one error paid back (R170 to R172, R198). -/
theorem steadyGroup_ascii (P : Params) (s : State) (henc : s.cfg.enc = .ascii)
    (hvalid : frmCheck s.cfg.desc s.sync.code = true) (hstate : s.sync.state = .steadyState) :
    steadyGroup P s = { s with
      out := s.out ++ [.char (ascChar s.cfg.desc.dataBits (frmExtract s.cfg.desc s.sync.code))]
      diag := { s.diag with succTally := satInc P.tallyW s.diag.succTally }
      sync := { s.sync with
        code := 0, bitCount := 0, errCount := s.sync.errCount - 1
        waitSpace := s.cfg.desc.varStop || s.sync.waitSpace } } := by
  simp only [steadyGroup_eq, decChar_ascii P henc hvalid, steadyErr_ok]
  exact (endGroup_steady (by exact hstate)).trans rfl

/-- The data of a frame is a character as it is: no mask of ASC.CHAR is narrower than the field (R250, R252). -/
theorem ascChar_of_fits (d : DataBits) {data : DataCode} (h : data.toNat < 2 ^ d.count) :
    ascChar d.count data = data.zeroExtend 21 := by
  cases d with
  | five => exact ascChar_of_ne_seven (by decide) data
  | eight => exact ascChar_of_ne_seven (by decide) data
  | seven =>
    have mask : data &&& 0x7F = data := by
      apply BitVec.eq_of_toNat_eq
      rw [BitVec.toNat_and]
      exact Nat.and_two_pow_sub_one_of_lt_two_pow (n := 7) h
    rw [DataBits.count, ascChar_seven, mask]

/-- Settles O48: the group is the encoder's word, which the validator accepts and FRM.EXTRACT reads back. -/
theorem asciiFrameEmitsItsData : Obligations.AsciiFrameEmitsItsData := by
  intro d st efr data s hconstructed hrunning henc hdesc hT hmsb hdata hstate hresync hcount hempty
  obtain ⟨w, hw, hexec⟩ := frameArrivesAsOneGroup (.async d st efr) data s hconstructed hrunning hdesc hT hmsb hstate
    hresync hcount hempty nofun
  have word : encodeFrame (.async d st efr) data.toNat = w := by
    rw [encode_frameRow, dataWidth, Nat.mod_eq_of_lt hdata] at hw
    cases hw
    rfl
  have field : frameData (.async d st efr) w = some data := by
    rw [← word, frameData_encodeFrame _ hdata, BitVec.ofNat_toNat, BitVec.setWidth_eq]
  have valid : frmCheck s.cfg.desc w = true := by rw [hdesc, ← frameData_isSome, field, Option.isSome_some]
  have char : ascChar s.cfg.desc.dataBits (frmExtract s.cfg.desc w) = data.zeroExtend 21 := by
    rw [hdesc, frmExtract_of_frameData field]
    exact ascChar_of_fits d hdata
  have varStop : s.cfg.desc.varStop = efr := by rw [hdesc]; rfl
  have group := steadyGroup_ascii s.params (withGroup w (FramingSpec.async d st efr).totalBits (s.setOut [])) henc valid
    hstate
  refine hexec.trans (congrArg _ (group.trans ?_))
  simp only [withGroup, State.setSync_sync, State.setSync_cfg, State.setSync_out, State.setOut_cfg, State.setOut_sync,
    State.setOut_out, char, varStop, hempty, hcount, Bool.or_false, List.nil_append]
  rfl

end Sys2Proof.Machine
end

section
/-! The effect of FILT.CFG, FILT.RST and FILT.RUN: each replaces one section of the bank (R112, R115, R116). -/

namespace Sys2Proof.Machine

/-! ## What the three instructions execute -/

theorem exec_filtCfg (f : SectionName) (kind : SectionKind) (fr : Rat) (sr : Nat) (q : Resonance) (s : State) :
    exec (.filtCfg f kind fr sr q) s = .next (filtCfg s.params f kind fr sr q s) := rfl

theorem exec_filtRst (f : SectionName) (s : State) : exec (.filtRst f) s = .next (filtRst s.params f s) := rfl

theorem exec_filtRun (f : SectionName) (x : Number) (s : State) : exec (.filtRun f x) s
    = .next ((filtRun s.params f x s).1.setRet (.number (filtRun s.params f x s).2)) := rfl

/-! ## Replacing one section -/

/-- Writing a section of the bank reads back, and leaves the other sections and the rest of the state alone. -/
theorem State.setFilt_set_effect (s : State) (f : SectionName) (x : Section) :
    (s.setFilt (s.filt.set f x)).filt.get f = x
    ∧ (∀ g, g ≠ f → (s.setFilt (s.filt.set f x)).filt.get g = s.filt.get g)
    ∧ s.setFilt (s.filt.set f x) = { s with filt := (s.setFilt (s.filt.set f x)).filt } :=
  ⟨FilterBank.get_set_same .., fun _ hne => FilterBank.get_set_of_ne _ _ hne, rfl⟩

/-! ## The statements -/

/-- Settles O25: FILT.CFG writes its section back with new coefficients. -/
theorem filtCfgEffect : Obligations.FiltCfgEffect := by
  intro f kind fr sr q s
  exact ⟨_, exec_filtCfg f kind fr sr q s, s.setFilt_set_effect f _⟩

/-- Settles O26: FILT.RST writes its section back with a zero history. -/
theorem filtRstEffect : Obligations.FiltRstEffect := by
  intro f s
  exact ⟨_, exec_filtRst f s, s.setFilt_set_effect f _⟩

/-- Settles O27: FILT.RUN writes `sectionStep` of its section back, and returns `sectionOutput` of it. -/
theorem filtRunEffect : Obligations.FiltRunEffect := by
  intro f x s c h num y
  have output : sectionOutput num h x = y := rfl
  have step : sectionStep num h x = ⟨c, x, h.x1, y, h.y1⟩ := rfl
  obtain ⟨same, others, frame⟩ := s.setFilt_set_effect f (sectionStep num h x)
  exact ⟨_, exec_filtRun f x s, same.trans step, congrArg OpResult.number output, others,
    congrArg (State.setRet · (.number y)) frame⟩

end Sys2Proof.Machine
end

section
/-! The bit extractor, operation by operation, through `exec` (R130 to R149): the peak of the histogram, the correction and
its dead zone, and the schedule as absolute sample counters. -/

namespace Sys2Proof.Machine

/-! ## What the instructions execute -/

theorem exec_bitxLevel (x : Sample) (s : State) : exec (.bitxLevel x) s = .next (bitxLevel s.params x s) := rfl

theorem exec_bitxAcc (s : State) : exec .bitxAcc s = .next (bitxAcc s) := rfl

theorem exec_bitxZc (s : State) : exec .bitxZc s = .next (bitxZc s.params s) := rfl

theorem exec_bitxCorr (s : State) : exec .bitxCorr s = .next (bitxCorr s.params s) := rfl

theorem exec_bitxDump (s : State) : exec .bitxDump s = .next (bitxDump s) := rfl

/-- An accepted SAMPLE is SAMPLE_STEP and the result code OK (R269). -/
theorem exec_sample_of_running (x : Sample) {s : State} (hc : s.ctl.constructed = true) (hr : s.ctl.running = true) :
    exec (.sample x) s = .next (raise .ok (sampleStep s.params x s)) := by
  show Host.Outcome.next (sample s.params x s) = _
  simp [sample, hc, hr]

/-! ## The peak of the histogram (R140) -/

/-- A bin that does not exceed the best so far does not replace it. -/
theorem peakFrom_of_le {l : List Nat} {best : Nat} (h : ∀ q ∈ l, q ≤ best) (j idx : Nat) :
    peakFrom l j best idx = (best, idx) := by
  induction l generalizing j with
  | nil => rfl
  | cons q rest ih =>
    have hq : ¬ q > best := Nat.not_lt.mpr (h q List.mem_cons_self)
    rw [peakFrom, if_neg hq]
    exact ih (fun r hr => h r (List.mem_cons_of_mem q hr)) (j + 1)

/-- Among equal maxima the lowest bin wins: the bin `i` that exceeds every bin before it, and that no bin exceeds, is the
peak. -/
theorem peakFrom_of_lowest_peak {l : List Nat} {i peak best : Nat} (hi : l[i]? = some peak) (hle : ∀ q ∈ l, q ≤ peak)
    (hlt : ∀ j q, j < i → l[j]? = some q → q < peak) (hbest : best < peak) (j idx : Nat) :
    peakFrom l j best idx = (peak, j + i) := by
  induction l generalizing i j best idx with
  | nil => simp at hi
  | cons q rest ih =>
    have hrest : ∀ r ∈ rest, r ≤ peak := fun r hr => hle r (List.mem_cons_of_mem q hr)
    cases i with
    | zero =>
      obtain rfl : q = peak := by simpa using hi
      rw [peakFrom, if_pos hbest]
      exact peakFrom_of_le hrest (j + 1) j
    | succ i =>
      have hi' : rest[i]? = some peak := by simpa using hi
      have hlt' : ∀ k r, k < i → rest[k]? = some r → r < peak := fun k r hk hr =>
        hlt (k + 1) r (by omega) (by simpa using hr)
      have hq : q < peak := hlt 0 q (Nat.succ_pos i) rfl
      have shift : j + 1 + i = j + (i + 1) := by omega
      rw [peakFrom, ← shift]
      split
      · exact ih hi' hrest hlt' hq (j + 1) j
      · exact ih hi' hrest hlt' hbest (j + 1) idx

/-! ## BITX.CORR, by its three cases (R139) -/

theorem bitxCorr_between_ticks (P : Params) {s : State} (h : s.bx.phase ≠ 0) : bitxCorr P s = s := by
  rw [bitxCorr, if_neg h]

theorem bitxCorr_inside_cycle {P : Params} {s : State} (h0 : s.bx.phase = 0) (h : s.bx.zcCount + 1 < P.zcCycle) :
    bitxCorr P s = s.setBx { s.bx with zcCount := s.bx.zcCount + 1 } := by
  rw [bitxCorr, if_pos h0, if_neg (Nat.not_le.mpr h)]

theorem bitxCorr_end_of_cycle {P : Params} {s : State} (h0 : s.bx.phase = 0) (h : P.zcCycle ≤ s.bx.zcCount + 1) :
    bitxCorr P s = (evaluate P s).setBx { (evaluate P s).bx with zcCount := 0 } := by
  rw [bitxCorr, if_pos h0, if_pos h]

/-- EVALUATE of an empty histogram only clears it. -/
theorem evaluate_of_empty (P : Params) {s : State} (h : ∀ q ∈ s.bx.hist, q = 0) :
    evaluate P s = { s with bx := { s.bx with hist := List.replicate s.bx.hist.length 0 } } := by
  have hpeak : peakFrom s.bx.hist 0 0 0 = (0, 0) := peakFrom_of_le (fun q hq => (h q hq).le) 0 0
  rw [evaluate_cases, hpeak, if_neg (Nat.lt_irrefl 0), List.map_const']

/-- EVALUATE of a histogram with its lowest positive peak in bin `idx` (R140, R141). -/
theorem evaluate_of_lowest_peak (P : Params) {s : State} {best idx : Nat} (hpos : 0 < best)
    (hidx : s.bx.hist[idx]? = some best) (hle : ∀ q ∈ s.bx.hist, q ≤ best)
    (hlt : ∀ j q, j < idx → s.bx.hist[j]? = some q → q < best) :
    let off2 := rawOffset2 P s.cfg.N idx
    evaluate P s = { s with
      bx := { s.bx with hist := List.replicate s.bx.hist.length 0, corrPending := correction P off2 }
      diag := { s.diag with timingError := off2 }
      out := s.out ++ [.timingError off2] } := by
  have hpeak : peakFrom s.bx.hist 0 0 0 = (best, idx) := by
    rw [peakFrom_of_lowest_peak hidx hle hlt hpos, Nat.zero_add]
  rw [evaluate_cases, hpeak, if_pos hpos, List.map_const']

/-- Settles O32: the peak of the histogram decides between the two cases of EVALUATE. -/
theorem bitxCorrEvaluates : Obligations.BitxCorrEvaluates := by
  intro s h0 hcycle
  rw [exec_bitxCorr, bitxCorr_end_of_cycle h0 hcycle]
  constructor
  · intro hempty
    rw [evaluate_of_empty s.params hempty]
    rfl
  · intro best idx hpos hidx hle hlt off2
    have hoff : rawOffset2 s.params s.cfg.N idx = off2 := by
      rw [rawOffset2, mul_comm (idx : Int)]
    rw [evaluate_of_lowest_peak s.params hpos hidx hle hlt, hoff]
    rfl

/-- Settles O31. -/
theorem bitxCorrCountsTicks : Obligations.BitxCorrCountsTicks := by
  intro s
  rw [exec_bitxCorr]
  constructor
  · intro h
    rw [bitxCorr_between_ticks s.params h]
  · intro h0 hlt
    rw [bitxCorr_inside_cycle h0 hlt]
    rfl

/-! ## The absolute sample counters (R147) -/

/-- BITX.DUMP reschedules an edge that is due, by a symbol period and the pending correction (R144). -/
theorem bitxDump_untilEvent (s : State) : (bitxDump s).bx.untilEvent =
    if s.bx.untilEvent = 0 then (s.cfg.N : Int) + s.bx.corrPending else s.bx.untilEvent := by
  unfold bitxDump
  split <;> rfl

/-- The operations of a sample step before BITX.DUMP leave the schedule alone (R270). -/
theorem schedule_before_bitxDump (P : Params) (x : Sample) (s : State) :
    let s4 := bitxCorr P (bitxZc P (bitxAcc (bitxLevel P x s)))
    s4.bx.untilEvent = s.bx.untilEvent ∧ s4.cfg.N = s.cfg.N := by
  rw [bitxCorr_frame, bitxZc_frame]
  exact ⟨rfl, rfl⟩

/-- The synchronizer leaves the bit extractor alone, and the end of the step moves both counters by one (R146). -/
theorem sampleStep_bx (P : Params) (x : Sample) (s : State) : (sampleStep P x s).bx = { (extractBit P x s).bx with
    untilEvent := (extractBit P x s).bx.untilEvent - 1, phase := (s.bx.phase + 1) % s.cfg.N } := by
  rw [sampleStep_eq, endOfStep_frame, syncStep_frame, extractBit_frame]

/-- Settles O36: with `untilEvent = nextEvent - sampleCount`, an edge is due exactly when the absolute counters meet. -/
theorem absoluteCountersSimulate : Obligations.AbsoluteCountersSimulate := by
  intro x s t sampleCount nextEvent hc hr hN hle huntil hphase hexec s4 next'
  obtain rfl : raise .ok (sampleStep s.params x s) = t := by
    rw [exec_sample_of_running x hc hr] at hexec
    exact Host.Outcome.next.inj hexec
  obtain ⟨until4, cfg4⟩ : s4.bx.untilEvent = s.bx.untilEvent ∧ s4.cfg.N = s.cfg.N :=
    schedule_before_bitxDump s.params x (s.setOut [])
  have due : s4.bx.untilEvent = 0 ↔ sampleCount ≥ nextEvent := by omega
  have bx : (raise .ok (sampleStep s.params x s)).bx = { (bitxDump s4).bx with
      untilEvent := (bitxDump s4).bx.untilEvent - 1, phase := (s.bx.phase + 1) % s.cfg.N } := sampleStep_bx s.params x s
  rw [bx]
  refine ⟨?edge, ?tick, ?bin, ?schedule, ?phase⟩
  case edge =>
    rw [bitxDump_frame]
    exact decide_eq_decide.mpr due
  case tick => omega
  case bin => rw [transitionBin, huntil, neg_sub]
  case schedule =>
    show (bitxDump s4).bx.untilEvent - 1 = next' - (sampleCount + 1)
    have hnext : next' = if s4.bx.untilEvent = 0 then nextEvent + s.cfg.N + s4.bx.corrPending else nextEvent :=
      if_congr due.symm rfl rfl
    rw [bitxDump_untilEvent, hnext, cfg4]
    split <;> omega
  case phase =>
    show (((s.bx.phase + 1) % s.cfg.N : Nat) : Int) = _
    push_cast
    rw [hphase, Int.emod_add_emod]

/-! ## The correction (R141, R145, R149) -/

/-- Settles O34: the offset of every bin is within half a symbol, so its correction is within the bound of R145, which is
less than a symbol period. -/
theorem scheduleStaysBounded : Obligations.ScheduleStaysBounded := by
  intro P N idx hP hN _ c bound
  obtain ⟨hlo, hhi⟩ := rawOffset2_range P N idx (by omega)
  have hcorr : c.natAbs ≤ bound := correction_range P N _ hP.loopDiv_pos hlo hhi
  have hbound : bound < N := ceilDiv_twice_lt N P.loopDiv hP.loopDiv_pos hN
  refine ⟨?_, hlo, ?_, ?_, ?_⟩ <;> omega

/-- Settles O35: the rounded quotient is zero exactly when its remainder is the whole dividend. -/
theorem correctionDeadZone : Obligations.CorrectionDeadZone := by
  intro P off2 hL
  have hpos : (0 : Int) < 2 * P.loopDiv := by omega
  calc correction P off2 = 0
      ↔ 0 ≤ off2 + P.loopDiv ∧ off2 + P.loopDiv < 2 * P.loopDiv := by
        rw [correction, Int.ediv_eq_iff_of_pos hpos, zero_mul, zero_add]
    _ ↔ -(P.loopDiv : Int) ≤ off2 ∧ off2 < P.loopDiv := by omega

/-! ## The other operations of a sample step -/

/-- Settles O28: each FILT.RUN of BITX.LEVEL reads and writes its own section, and what it returns is the number the next
line uses. -/
theorem bitxLevelEffect : Obligations.BitxLevelEffect := by
  intro x s
  exact ⟨_, _, _, _, _, _, _, exec_filtRun .mark _ s, rfl, exec_filtRun .space _ _, rfl, exec_filtRun .lp _ _, rfl,
    exec_bitxLevel x s, rfl⟩

/-- Settles O29. -/
theorem bitxAccEffect : Obligations.BitxAccEffect := by
  intro s
  rw [exec_bitxAcc, bitxAcc_frame]
  cases s.bx.rawMark <;> rfl

/-- Settles O30: a counted transition is one that ends a run of more than half a symbol. -/
theorem bitxZcEffect : Obligations.BitxZcEffect := by
  intro s r j
  rw [exec_bitxZc, bitxZc_cases]
  simp only [Bool.and_eq_true, bne_iff_ne, decide_eq_true_eq]
  rfl

/-- Settles O33. -/
theorem bitxDumpEffect : Obligations.BitxDumpEffect := by
  intro s
  rw [exec_bitxDump, bitxDump]
  split <;> rfl

end Sys2Proof.Machine
end

section
/-! The operations of the frame synchronizer: what a symbol bit does in each state, and what of the block DEC.CHAR reads
(R163 to R172, R198). -/

namespace Sys2Proof.Machine

/-! ## What the instructions execute -/

theorem exec_syncSql (present : Bool) (s : State) :
    exec (.syncSql present) s = .next (syncSql s.params present s) := rfl

theorem exec_syncBit (bit : Bool) (s : State) : exec (.syncBit bit) s = .next (syncBit s.params bit s) := rfl

theorem exec_decRst (s : State) : exec .decRst s = .next (decRst s) := rfl

/-- DEC.CHAR run alone: the character and the validity are the value returned (R198). -/
def decCharCall (P : Params) (code : RawCode) (s : State) : State :=
  (decChar P code s).1.setRet (.charOk (decChar P code s).2.1 (decChar P code s).2.2)

theorem decCharCall_params (P : Params) (code : RawCode) (s : State) : (decCharCall P code s).params = s.params := by
  rw [decCharCall, decChar_frame]
  rfl

theorem exec_decChar {P : Params} {s : State} (h : s.params = P) (code : RawCode) :
    exec (.decChar code) s = .next (decCharCall P code s) := by
  subst h
  rfl

/-! ## The resync flag (R163, R164) -/

theorem consumeResync_of_down {s : State} (h : s.sync.resync = false) : consumeResync s = s := by
  rw [consumeResync, h, if_neg (by decide)]

theorem consumeResync_of_armed {s : State} (h : s.sync.resync = true) : consumeResync s = { decRst s with
    sync := { s.sync with
      state := .hunting, resync := false, code := 0, bitCount := 0, fill := 0, validCount := 0, errCount := 0
      waitSpace := false }
    out := if s.sync.state = .hunting then s.out else s.out ++ [.state .hunting] } := by
  rw [consumeResync, if_pos h, syncClear_frame, decRst_frame]
  by_cases hstate : s.sync.state = .hunting
  · simp only [hstate, State.setSync_sync, if_true]
    rfl
  · simp only [hstate, State.setSync_sync, if_false]
    rfl

/-- Settles O38: the state that consuming the flag leaves has the flag down, so its bit starts from it as it is. -/
theorem syncBitConsumesResync : Obligations.SyncBitConsumesResync := by
  intro bit s h
  refine ⟨_, exec_decRst s, ?_⟩
  rw [exec_syncBit, exec_syncBit, syncBit, syncBit, consumeResync_of_armed h, consumeResync_of_down (by rfl),
    decRst_frame]

/-! ## One symbol bit, by the state it arrives in (R165, R167, R170) -/

section
variable {P : Params} {s : State}

theorem syncBit_noSignal (hr : s.sync.resync = false) (hs : s.sync.state = .noSignal) (bit : Bool) :
    syncBit P bit s = s := by
  rw [syncBit, consumeResync_of_down hr, hs]

theorem syncBit_hunting (hr : s.sync.resync = false) (hs : s.sync.state = .hunting) (bit : Bool) :
    syncBit P bit s = huntBit bit s := by
  rw [syncBit, consumeResync_of_down hr, hs]

theorem syncBit_confirming (hr : s.sync.resync = false) (hs : s.sync.state = .confirming) (bit : Bool) :
    syncBit P bit s = confirmBit P bit s := by
  rw [syncBit, consumeResync_of_down hr, hs]

theorem syncBit_steady (hr : s.sync.resync = false) (hs : s.sync.state = .steadyState) (bit : Bool) :
    syncBit P bit s = steadyBit P bit s := by
  rw [syncBit, consumeResync_of_down hr, hs]

/-! ## Hunting (R165, R166) -/

/-- The window after one more bit. -/
def slideWindow (bit : Bool) (s : State) : State :=
  s.setSync { s.sync with code := shiftIn s.cfg.msb bit s.sync.code, fill := min s.cfg.T (s.sync.fill + 1) }

theorem huntBit_eq (bit : Bool) (s : State) : huntBit bit s =
    if min s.cfg.T (s.sync.fill + 1) = s.cfg.T ∧ decCheck s (shiftIn s.cfg.msb bit s.sync.code) = true then
      huntHit (slideWindow bit s)
    else slideWindow bit s := rfl

/-! ## Confirming (R167, R168) -/

theorem confirmBit_inside {bit : Bool} (h : s.sync.bitCount + 1 ≠ s.cfg.T) :
    confirmBit P bit s = groupShift bit s := if_neg h

theorem confirmBit_completes {bit : Bool} (h : s.sync.bitCount + 1 = s.cfg.T) :
    confirmBit P bit s = confirmGroup P (groupShift bit s) := if_pos h

/-- The state with its group recorded as one more valid frame (R168). -/
def recordGroup (s : State) : State :=
  s.setSync { s.sync with
    recd := s.sync.recd.set s.sync.validCount s.sync.code
    validCount := s.sync.validCount + 1, code := 0, bitCount := 0 }

theorem recordGroup_groupShift (bit : Bool) (s : State) :
    let code := shiftIn s.cfg.msb bit s.sync.code
    recordGroup (groupShift bit s) = { s with sync := { s.sync with
      recd := s.sync.recd.set s.sync.validCount code, validCount := s.sync.validCount + 1
      code := 0, bitCount := 0 } } := rfl

theorem confirmGroup_invalid (h : decCheck s s.sync.code = false) :
    confirmGroup P s = forceHunting (groupDone s) := by
  rw [confirmGroup, h, if_neg (by decide)]
  rfl

theorem confirmGroup_valid (h : decCheck s s.sync.code = true) : confirmGroup P s =
    if s.sync.validCount + 1 = P.confirmN then enterState .steadyState (flush P (recordGroup s))
    else recordGroup s := if_pos h

/-! ## SteadyState (R170 to R172) -/

theorem steadyBit_discards (hw : s.sync.waitSpace = true) : steadyBit P true s = s := by
  rw [steadyBit, hw]
  rfl

/-- Past `ERR_LIMIT` a structurally invalid group forces the resynchronisation (R171). -/
theorem steadyErr_invalid (hr : s.sync.resync = false) (hs : s.sync.state = .steadyState) :
    let forced := decide (s.sync.errCount + 1 > P.errLimit)
    steadyErr P false s = { s with
      sync := { s.sync with
        errCount := s.sync.errCount + 1
        resync := forced, state := if forced then .hunting else .steadyState }
      out := s.out ++ if forced then [.state .hunting] else [] } := by
  intro forced
  have counted : steadyErr P false s =
      if s.sync.errCount + 1 > P.errLimit then
        forceHunting (s.setSync { s.sync with errCount := s.sync.errCount + 1 })
      else s.setSync { s.sync with errCount := s.sync.errCount + 1 } := rfl
  rw [counted]
  by_cases h : s.sync.errCount + 1 > P.errLimit
  · have hforced : forced = true := decide_eq_true h
    rw [if_pos h, hforced]
    rfl
  · have hforced : forced = false := decide_eq_false h
    simp only [if_neg h, hforced, Bool.false_eq_true, if_false, List.append_nil]
    rw [← hr, ← hs]
    rfl

/-- STEADY_ERR of a group that DEC.CHAR found valid or not (R171). -/
theorem steadyErr_eq (hr : s.sync.resync = false) (hs : s.sync.state = .steadyState) (ok : Bool) :
    let errCount := if ok then s.sync.errCount - 1 else s.sync.errCount + 1
    let forced := !ok && decide (errCount > P.errLimit)
    steadyErr P ok s = { s with
      sync := { s.sync with
        errCount := errCount, resync := forced, state := if forced then .hunting else .steadyState }
      out := s.out ++ if forced then [.state .hunting] else [] } := by
  cases ok with
  | true =>
    rw [steadyErr_ok]
    simp only [Bool.not_true, Bool.false_and, Bool.false_eq_true, if_true, if_false, List.append_nil]
    rw [← hr, ← hs]
    rfl
  | false => exact steadyErr_invalid hr hs

/-- The end of a group: `varStop` arms the wait of a block that is still in SteadyState (R170, R172). -/
theorem endGroup_eq (s : State) : endGroup s = s.setSync { s.sync with
    code := 0, bitCount := 0
    waitSpace := decide (s.sync.state = .steadyState) && s.cfg.desc.varStop || s.sync.waitSpace } := by
  by_cases hs : s.sync.state = .steadyState
  · rw [endGroup_steady hs, decide_eq_true hs, Bool.true_and]
  · rw [endGroup, if_neg fun hd => hs hd.2, decide_eq_false hs, Bool.false_and, Bool.false_or]
    rfl

/-- A completed group in SteadyState, by what DEC.CHAR answers (R170 to R172). -/
theorem steadyGroup_effect (hr : s.sync.resync = false) (hs : s.sync.state = .steadyState)
    (hw : s.sync.waitSpace = false) {ita2 : Ita2State} {fec : FecState} {diag : Diagnostics} {c : Option Scalar}
    {ok : Bool}
    (hd : decChar P s.sync.code s = ({ s with ita2 := ita2, fec := fec, diag := diag }, c, ok)) :
    let errCount := if ok then s.sync.errCount - 1 else s.sync.errCount + 1
    let forced := !ok && decide (errCount > P.errLimit)
    steadyGroup P s = { s with
      ita2 := ita2, fec := fec, diag := diag
      sync := { s.sync with
        code := 0, bitCount := 0, errCount := errCount, waitSpace := !forced && s.cfg.desc.varStop
        resync := forced, state := if forced then .hunting else .steadyState }
      out := s.out ++ c.toList.map .char ++ if forced then [.state .hunting] else [] } := by
  intro errCount forced
  have counted := steadyErr_eq (P := P) (s := { s with
    ita2 := ita2, fec := fec, diag := diag, out := s.out ++ c.toList.map .char }) hr hs ok
  have still : (decide ((if forced then SyncState.hunting else .steadyState) = .steadyState) && s.cfg.desc.varStop
      || s.sync.waitSpace) = (!forced && s.cfg.desc.varStop) := by
    rw [hw, Bool.or_false]
    cases forced <;> rfl
  rw [steadyGroup_eq, hd, emitChar_frame, counted, endGroup_eq, ← still]
  rfl

end

/-! ## DEC.CHAR reads the configuration, the decoders and the tallies (R198) -/

/-- The two states hold the same configuration, decoders and diagnostics. -/
structure SameDecoders (s t : State) : Prop where
  cfg : t.cfg = s.cfg
  ita2 : t.ita2 = s.ita2
  fec : t.fec = s.fec
  diag : t.diag = s.diag

namespace SameDecoders
variable {P : Params} {s t : State}

theorem setIta2 (h : SameDecoders s t) (x : Ita2State) : SameDecoders (s.setIta2 x) (t.setIta2 x) :=
  { h with ita2 := rfl }

theorem setFec (h : SameDecoders s t) (x : FecState) : SameDecoders (s.setFec x) (t.setFec x) := { h with fec := rfl }

theorem countSuccess (h : SameDecoders s t) : SameDecoders (countSuccess P s) (countSuccess P t) :=
  { h with diag := by rw [countSuccess_frame, countSuccess_frame, h.diag] }

theorem countFailure (h : SameDecoders s t) : SameDecoders (countFailure P s) (countFailure P t) :=
  { h with diag := by rw [countFailure_frame, countFailure_frame, h.diag] }

theorem fecAlpha (h : SameDecoders s t) (d : BitVec 7) :
    SameDecoders (fecAlpha P d s).1 (fecAlpha P d t).1 ∧ (fecAlpha P d t).2 = (fecAlpha P d s).2 := by
  unfold Machine.fecAlpha
  rw [h.fec]
  split
  · exact ⟨h.countFailure, rfl⟩
  · dsimp only
    rw [h.countSuccess.fec]
    exact ⟨h.countSuccess.setFec _, rfl⟩

theorem fecChar (h : SameDecoders s t) (d : BitVec 7) :
    SameDecoders (fecChar P d s).1 (fecChar P d t).1 ∧ (fecChar P d t).2 = (fecChar P d s).2 := by
  cases hslot : fecSlot d s.fec.alphaPhase with
  | false =>
    rw [fecChar_repeat hslot, fecChar_repeat (h.fec ▸ hslot), h.fec]
    exact ⟨h.setFec _, rfl⟩
  | true =>
    obtain ⟨alpha, same⟩ := h.fecAlpha (P := P) d
    rw [fecChar_alpha hslot, fecChar_alpha (h.fec ▸ hslot), alpha.fec, same]
    exact ⟨alpha.setFec _, rfl⟩

theorem ita2Char (h : SameDecoders s t) (d : BitVec 5) :
    SameDecoders (ita2Char P d s).1 (ita2Char P d t).1 ∧ (ita2Char P d t).2 = (ita2Char P d s).2 := by
  cases hlook : s.ita2.lookValid with
  | false =>
    rw [ita2Char_first hlook, ita2Char_first (h.ita2 ▸ hlook), h.ita2]
    exact ⟨h.setIta2 _, rfl⟩
  | true =>
    by_cases hd : d = figsCode ∨ d = ltrsCode
    · rw [ita2Char_shiftCode hlook hd, ita2Char_shiftCode (h.ita2 ▸ hlook) hd, h.ita2]
      exact ⟨h.setIta2 _, rfl⟩
    · rw [ita2Char_printing hlook hd, ita2Char_printing (h.ita2 ▸ hlook) hd, h.ita2]
      exact ⟨h.setIta2 _, rfl⟩

theorem decChar (h : SameDecoders s t) (code : RawCode) :
    SameDecoders (decChar P code s).1 (decChar P code t).1 ∧ (decChar P code t).2 = (decChar P code s).2 := by
  unfold Machine.decChar
  rw [h.cfg]
  split
  · exact h.fecChar _
  · split
    · obtain ⟨decoded, same⟩ := (h.countSuccess (P := P)).ita2Char (P := P) ((frmExtract s.cfg.desc code).truncate 5)
      exact ⟨decoded, congrArg (·, true) same⟩
    · exact ⟨h.countFailure, rfl⟩
  · split
    · exact ⟨h.countSuccess, rfl⟩
    · exact ⟨h.countFailure, rfl⟩

/-- DEC.CHAR in a state with the same decoders answers the same, and leaves the rest of that state alone. -/
theorem decChar_eq (h : SameDecoders s t) (code : RawCode) : Machine.decChar P code t =
    ({ t with
        ita2 := (Machine.decChar P code s).1.ita2, fec := (Machine.decChar P code s).1.fec
        diag := (Machine.decChar P code s).1.diag }, (Machine.decChar P code s).2) := by
  obtain ⟨decoded, same⟩ := h.decChar (P := P) code
  refine Prod.ext ?_ same
  rw [decChar_frame, decoded.ita2, decoded.fec, decoded.diag]

/-- A withheld frame of a FLUSH is DEC.CHAR and the event of its character (R169). -/
theorem flushOne (h : SameDecoders s t) (code : RawCode) :
    SameDecoders (decCharCall P code s) (flushOne P t code)
    ∧ (flushOne P t code).out = t.out ++ (Machine.decChar P code s).2.1.toList.map .char := by
  obtain ⟨decoded, same⟩ := h.decChar (P := P) code
  rw [flushOne_frame, same]
  refine ⟨?_, rfl⟩
  rw [decCharCall, decChar_frame]
  exact { decoded with cfg := h.cfg }

end SameDecoders

/-- DEC.CHAR of these codes in order, each run alone: the last state, and what each gave for a character. -/
def decChars (P : Params) : List RawCode → State → State × List (Option Scalar)
  | [], s => (s, [])
  | code :: rest, s =>
    let after := decChars P rest (decCharCall P code s)
    (after.1, (decChar P code s).2.1 :: after.2)

/-- FLUSH decodes the withheld frames as DEC.CHAR alone would, and emits their characters (R169). -/
theorem SameDecoders.flushAll {P : Params} {s t : State} (h : SameDecoders s t) (codes : List RawCode) :
    codes.foldl (Machine.flushOne P) t = { t with
      ita2 := (decChars P codes s).1.ita2, fec := (decChars P codes s).1.fec, diag := (decChars P codes s).1.diag
      out := t.out ++ ((decChars P codes s).2.filterMap id).map .char } := by
  induction codes generalizing s t with
  | nil =>
    simp only [List.foldl_nil, decChars, List.filterMap_nil, List.map_nil, List.append_nil]
    rw [← h.ita2, ← h.fec, ← h.diag]
  | cons code rest ih =>
    obtain ⟨decoded, out⟩ := h.flushOne (P := P) code
    have chars : ((decChars P (code :: rest) s).2.filterMap id)
        = (Machine.decChar P code s).2.1.toList ++ (decChars P rest (decCharCall P code s)).2.filterMap id := by
      rw [decChars]
      cases (Machine.decChar P code s).2.1 <;> rfl
    rw [List.foldl_cons, ih decoded, out, flushOne_frame, chars, List.map_append, List.append_assoc]
    rfl

end Sys2Proof.Machine
end

section
/-! SYNC.BIT in each state, through `exec` (R165 to R172). -/

namespace Sys2Proof.Machine

/-- Settles O39: the window slides, and the test of R165 decides between HUNT_HIT and staying. -/
theorem huntingBitEffect : Obligations.HuntingBitEffect := by
  intro bit s hr hs code fill
  rw [exec_syncBit, syncBit_hunting hr hs, huntBit_eq]
  exact apply_ite Host.Outcome.next (fill = s.cfg.T ∧ decCheck s code = true) (huntHit (slideWindow bit s))
    (slideWindow bit s)

/-- Settles O40: a group that is complete is recorded or forces the resynchronisation, as DEC.CHECK decides. -/
theorem confirmingBitEffect : Obligations.ConfirmingBitEffect := by
  intro bit s hr hs code
  rw [exec_syncBit, syncBit_confirming hr hs]
  refine ⟨fun hinside => ?_, fun hfull hvalid hmore => ?_, fun hfull hinvalid => ?_⟩
  · rw [confirmBit_inside hinside]
    rfl
  · rw [confirmBit_completes hfull, confirmGroup_valid (s := groupShift bit s) hvalid, if_neg (by exact hmore),
      recordGroup_groupShift]
    rfl
  · rw [confirmBit_completes hfull, confirmGroup_invalid (s := groupShift bit s) hinvalid]
    rfl

/-- The group that completes the acquisition: FLUSH decodes the recorded frames and this one (R168, R169). -/
theorem confirmBit_acquires {P : Params} {s : State} {bit : Bool} (hfull : s.sync.bitCount + 1 = s.cfg.T)
    (hvalid : decCheck s (shiftIn s.cfg.msb bit s.sync.code) = true) (hlast : s.sync.validCount + 1 = P.confirmN)
    (hroom : s.sync.recd.length = P.confirmN) :
    let frames := s.sync.recd.set s.sync.validCount (shiftIn s.cfg.msb bit s.sync.code)
    let decoded := decChars P frames s
    confirmBit P bit s = { s with
      ita2 := decoded.1.ita2, fec := decoded.1.fec, diag := decoded.1.diag
      sync := { s.sync with recd := frames, validCount := 0, code := 0, bitCount := 0, state := .steadyState }
      out := s.out ++ (decoded.2.filterMap id).map .char ++ [.state .steadyState] } := by
  intro frames decoded
  have same : SameDecoders s (recordGroup (groupShift bit s)) := ⟨rfl, rfl, rfl, rfl⟩
  have all : (recordGroup (groupShift bit s)).sync.recd.take (recordGroup (groupShift bit s)).sync.validCount
      = frames := by
    refine List.take_of_length_le ?_
    show (s.sync.recd.set _ _).length ≤ s.sync.validCount + 1
    rw [List.length_set, hroom, hlast]
  rw [confirmBit_completes hfull, confirmGroup_valid (s := groupShift bit s) hvalid, if_pos (by exact hlast), flush,
    all, same.flushAll, recordGroup_groupShift]
  rfl

/-- Settles O41, with three frames recorded of four. -/
theorem fourthValidGroupFlushes : Obligations.FourthValidGroupFlushes := by
  intro bit s r0 r1 r2 r3 hr hs hfull hn hcount hrecd code hvalid
  have acquired := confirmBit_acquires (P := s.params) hfull hvalid (by rw [hn, hcount]) (by rw [hrecd, hn]; rfl)
  rw [hrecd, hcount] at acquired
  have params0 := decCharCall_params s.params r0 s
  have params1 := (decCharCall_params s.params r1 _).trans params0
  have params2 := (decCharCall_params s.params r2 _).trans params1
  refine ⟨_, _, _, _, _, _, _, _, _, _, _, _, exec_decChar rfl r0, rfl, exec_decChar params0 r1, rfl,
    exec_decChar params1 r2, rfl, exec_decChar params2 code, rfl, ?_⟩
  rw [exec_syncBit, syncBit_confirming hr hs, acquired]
  rfl

/-- Settles O42: the wait discards a mark; every other bit enters the group, which it does not complete. -/
theorem steadyBitInsideGroup : Obligations.SteadyBitInsideGroup := by
  intro bit s hr hs
  rw [exec_syncBit, syncBit_steady hr hs]
  constructor
  · rintro hw rfl
    rw [steadyBit_discards hw]
  · intro hw hinside
    have enters : (s.sync.waitSpace && bit) = false := Bool.and_eq_false_iff.mpr hw
    rw [steadyBit_enters enters, if_neg hinside]
    rfl

/-- Settles O43: the group is complete with the shifted-in bit, and its effect is that of `steadyGroup_effect`. -/
theorem steadyGroupEffect : Obligations.SteadyGroupEffect := by
  intro bit s hr hs hw hfull code
  have enters : (s.sync.waitSpace && bit) = false := Bool.and_eq_false_iff.mpr hw
  have same : SameDecoders s (withGroup code (s.sync.bitCount + 1) s) := ⟨rfl, rfl, rfl, rfl⟩
  refine ⟨_, _, _, exec_decChar rfl code, rfl, congrArg Host.Outcome.next ?_⟩
  rw [syncBit_steady hr hs, steadyBit_enters enters, if_pos hfull]
  exact steadyGroup_effect (s := withGroup code (s.sync.bitCount + 1) s) hr hs rfl (same.decChar_eq code)

end Sys2Proof.Machine
end

section
/-! The transitions of the synchronizer and its events (R172 to R174), and the squelch invariant (R175). -/

namespace Sys2Proof.Machine

/-! ## The transitions of one operation (R173, R174) -/

/-- The transitions of R174 that a symbol bit can make. -/
def bitTransitions : List (SyncState × SyncState) :=
  [(.hunting, .confirming), (.confirming, .steadyState), (.confirming, .hunting), (.steadyState, .hunting)]

/-- What a symbol bit does to the state and the output list: characters, and after them a `State` event exactly if it
makes one of the transitions (R173, R174). -/
def BitMoves (s t : State) : Prop := ∃ cs : List Scalar,
  (s.sync.state = t.sync.state ∧ t.out = s.out ++ cs.map .char)
  ∨ ((s.sync.state, t.sync.state) ∈ bitTransitions ∧ t.out = s.out ++ cs.map .char ++ [.state t.sync.state])

section
variable {P : Params} {s t : State}

theorem BitMoves.silent (hstate : s.sync.state = t.sync.state) (hout : t.out = s.out) : BitMoves s t :=
  ⟨[], .inl ⟨hstate, hout.trans (List.append_nil _).symm⟩⟩

theorem huntBit_moves (hs : s.sync.state = .hunting) (bit : Bool) : BitMoves s (huntBit bit s) := by
  rw [huntBit_eq]
  split
  · refine ⟨[], .inr ⟨?_, ?_⟩⟩
    · rw [hs]
      exact List.mem_cons_self
    · rw [List.map_nil, List.append_nil]
      rfl
  · exact .silent rfl rfl

theorem flush_out (P : Params) (s : State) : ∃ cs : List Scalar, (flush P s).out = s.out ++ cs.map .char := by
  obtain ⟨cs, -, hout⟩ := flushAll_out P (s.sync.recd.take s.sync.validCount) s
  exact ⟨cs, hout⟩

theorem confirmGroup_moves (hs : s.sync.state = .confirming) : BitMoves s (confirmGroup P s) := by
  cases hvalid : decCheck s s.sync.code with
  | false =>
    rw [confirmGroup_invalid hvalid]
    refine ⟨[], .inr ⟨?_, ?_⟩⟩
    · rw [hs]
      show (SyncState.confirming, SyncState.hunting) ∈ _
      decide
    · rw [List.map_nil, List.append_nil]
      rfl
  | true =>
    rw [confirmGroup_valid hvalid]
    split
    · obtain ⟨cs, hout⟩ := flush_out P (recordGroup s)
      refine ⟨cs, .inr ⟨?_, ?_⟩⟩
      · rw [hs]
        show (SyncState.confirming, SyncState.steadyState) ∈ _
        decide
      · exact congrArg (· ++ [Event.state .steadyState]) hout
    · exact .silent rfl rfl

theorem confirmBit_moves (hs : s.sync.state = .confirming) (bit : Bool) : BitMoves s (confirmBit P bit s) := by
  by_cases hfull : s.sync.bitCount + 1 = s.cfg.T
  · rw [confirmBit_completes hfull]
    exact confirmGroup_moves (s := groupShift bit s) hs
  · rw [confirmBit_inside hfull]
    exact .silent rfl rfl

theorem steadyGroup_moves (hr : s.sync.resync = false) (hs : s.sync.state = .steadyState)
    (hw : s.sync.waitSpace = false) : BitMoves s (steadyGroup P s) := by
  have same : SameDecoders s s := ⟨rfl, rfl, rfl, rfl⟩
  have group := steadyGroup_effect hr hs hw (same.decChar_eq (P := P) s.sync.code)
  extract_lets errCount forced at group
  refine ⟨(decChar P s.sync.code s).2.1.toList, ?_⟩
  rw [group]
  cases forced with
  | false => exact .inl ⟨hs, List.append_nil _⟩
  | true =>
    refine .inr ⟨?_, rfl⟩
    rw [hs]
    show (SyncState.steadyState, SyncState.hunting) ∈ _
    decide

theorem steadyBit_moves (hr : s.sync.resync = false) (hs : s.sync.state = .steadyState) (bit : Bool) :
    BitMoves s (steadyBit P bit s) := by
  cases hwait : s.sync.waitSpace && bit with
  | true =>
    rw [steadyBit, hwait, if_pos rfl]
    exact .silent rfl rfl
  | false =>
    rw [steadyBit_enters hwait]
    dsimp only
    split
    · exact steadyGroup_moves (s := withGroup _ _ s) hr hs rfl
    · exact .silent rfl rfl

/-- A symbol bit that finds the resync flag down, in each state (R174). -/
theorem syncBit_moves (hr : s.sync.resync = false) (bit : Bool) : BitMoves s (syncBit P bit s) := by
  cases hs : s.sync.state with
  | noSignal =>
    rw [syncBit_noSignal hr hs]
    exact .silent rfl rfl
  | hunting =>
    rw [syncBit_hunting hr hs]
    exact huntBit_moves hs bit
  | confirming =>
    rw [syncBit_confirming hr hs]
    exact confirmBit_moves hs bit
  | steadyState =>
    rw [syncBit_steady hr hs]
    exact steadyBit_moves hr hs bit

/-- SYNC.SQL stays where it is, or enters NoSignal or leaves it, with the `State` event (R161, R162). -/
theorem syncSql_moves (P : Params) (present : Bool) (s : State) :
    let t := syncSql P present s
    (s.sync.state = t.sync.state ∧ t.out = s.out)
    ∨ (present = false ∧ s.sync.state ≠ .noSignal ∧ t.sync.state = .noSignal ∧ t.out = s.out ++ [.state .noSignal])
    ∨ (present = true ∧ s.sync.state = .noSignal ∧ t.sync.state = .hunting ∧ t.out = s.out ++ [.state .hunting]) := by
  intro t
  by_cases hs : s.sync.state = .noSignal
  · cases present with
    | true =>
      have left : t = enterState .hunting s := if_pos hs
      rw [left]
      exact .inr (.inr ⟨rfl, hs, rfl, rfl⟩)
    | false =>
      have stays : t = s := if_pos hs
      rw [stays]
      exact .inl ⟨rfl, rfl⟩
  · cases present with
    | true =>
      have stays : t = s := if_neg hs
      rw [stays]
      exact .inl ⟨rfl, rfl⟩
    | false =>
      have entered : t = enterNoSignal P s := if_neg hs
      rw [entered, enterNoSignal_frame]
      exact .inr (.inl ⟨rfl, hs, rfl, rfl⟩)

end

/-- Settles O44: among the events of a bit, only the one of `BitMoves` is a `State` event. -/
theorem transitionsAndStateEvents : Obligations.TransitionsAndStateEvents := by
  intro s t stateEvents
  have chars (cs : List Scalar) (l : List Event) : stateEvents (l ++ cs.map .char) = stateEvents l := by
    simp [stateEvents]
  have change (q : SyncState) (l : List Event) : stateEvents (l ++ [.state q]) = stateEvents l ++ [q] := by
    simp [stateEvents]
  constructor
  · intro present hexec
    rw [exec_syncSql] at hexec
    obtain rfl := Host.Outcome.next.inj hexec
    exact syncSql_moves s.params present s
  · intro bit hr hexec
    rw [exec_syncBit] at hexec
    obtain rfl := Host.Outcome.next.inj hexec
    obtain ⟨cs, ⟨hstate, hout⟩ | ⟨htransition, hout⟩⟩ := syncBit_moves (P := s.params) hr bit
    · exact .inl ⟨hstate, by rw [hout, chars]⟩
    · exact .inr ⟨htransition, by rw [hout, change, chars]⟩

/-! ## The squelch invariant (R175) -/

/-- The events of the bit extractor in a sample step are timing errors (R141, R272). -/
theorem bitxCorr_out (P : Params) (s : State) :
    (bitxCorr P s).out = s.out ∨ ∃ off2, (bitxCorr P s).out = s.out ++ [.timingError off2] := by
  have evaluated : (evaluate P s).out = s.out ∨ ∃ off2, (evaluate P s).out = s.out ++ [.timingError off2] := by
    rw [evaluate_cases]
    split
    · exact .inr ⟨_, rfl⟩
    · exact .inl rfl
  unfold bitxCorr
  split
  · split
    · exact evaluated
    · exact .inl rfl
  · exact .inl rfl

theorem extractBit_out (P : Params) (x : Sample) (s : State) (c : Scalar) : Event.char c ∉ (extractBit P x s).out := by
  have before : (bitxZc P (bitxAcc (bitxLevel P x (s.setOut [])))).out = [] := by
    rw [bitxZc_frame]
    rfl
  have out : (extractBit P x s).out = (bitxCorr P (bitxZc P (bitxAcc (bitxLevel P x (s.setOut []))))).out := by
    rw [extractBit, bitxDump_frame]
  rw [out]
  obtain h | ⟨off2, h⟩ := bitxCorr_out P (bitxZc P (bitxAcc (bitxLevel P x (s.setOut []))))
  · rw [h, before]
    exact List.not_mem_nil
  · rw [h, before]
    simp

/-- The signal-present flag compares the average of the same step with the floor (R132). -/
theorem extractBit_signalPresent (P : Params) (x : Sample) (s : State) : (extractBit P x s).bx.signalPresent
    = !P.num.ops.lt (extractBit P x s).bx.avg (P.num.ops.const P.signalFloor) := by
  rw [extractBit, bitxDump_frame, bitxCorr_frame, bitxZc_frame]
  rfl

/-- In NoSignal without a signal the synchronizer does nothing (R160, R161). -/
theorem syncStep_squelched {P : Params} {s : State} (hs : s.sync.state = .noSignal) (hp : s.bx.signalPresent = false) :
    syncStep P s = s := by
  have stays : syncSql P false s = s := if_pos hs
  rw [syncStep, hp, stays]
  rfl

/-- A sample with the result code OK was accepted (R269). -/
theorem exec_sample_of_ok {x : Sample} {s t : State} (h : exec (.sample x) s = .next t) (hok : t.ctl.err = .ok) :
    t = raise .ok (sampleStep s.params x s) := by
  obtain rfl : sample s.params x s = t := Host.Outcome.next.inj h
  unfold sample at hok ⊢
  split at hok
  · cases hok
  · split at hok
    · cases hok
    · next hc hr => rw [if_neg hc, if_neg hr]

/-- An accepted sample below the floor keeps a squelched block squelched, with no character (R175). -/
theorem sample_squelched {x : Sample} {s t : State} (h : exec (.sample x) s = .next t) (hok : t.ctl.err = .ok)
    (hs : s.sync.state = .noSignal)
    (hlow : s.params.num.ops.lt t.bx.avg (s.params.num.ops.const s.params.signalFloor) = true) :
    t.params = s.params ∧ t.sync.state = .noSignal ∧ ∀ c, Event.char c ∉ t.out := by
  rw [exec_sample_of_ok h hok] at hlow ⊢
  have avg : (raise .ok (sampleStep s.params x s)).bx.avg = (extractBit s.params x s).bx.avg := by
    show (sampleStep s.params x s).bx.avg = _
    rw [sampleStep_bx]
  have quiet : (extractBit s.params x s).bx.signalPresent = false := by
    rw [extractBit_signalPresent, ← avg, hlow]
    rfl
  have state : (extractBit s.params x s).sync = s.sync ∧ (extractBit s.params x s).params = s.params := by
    rw [extractBit_frame]
    exact ⟨rfl, rfl⟩
  obtain ⟨sync, params⟩ := state
  rw [sampleStep_eq, syncStep_squelched (by rw [sync]; exact hs) quiet, raise_frame, endOfStep_frame]
  exact ⟨params, (congrArg Synchronizer.state sync).trans hs, extractBit_out s.params x s⟩

/-- Settles O45, by induction on the position in the run. -/
theorem squelchInvariant : Obligations.SquelchInvariant := by
  intro xs states s hs hlen hrun
  have squelched (k : Nat) (t : State) (ht : states[k]? = some t) :
      t.params = s.params ∧ t.sync.state = .noSignal ∧ ∀ c, Event.char c ∉ t.out := by
    induction k generalizing t with
    | zero =>
      obtain ⟨hk, -⟩ := List.getElem?_eq_some_iff.mp ht
      obtain ⟨hexec, hok, hlow⟩ := hrun 0 _ t (List.getElem?_eq_getElem (hlen ▸ hk)) ht
      exact sample_squelched hexec hok hs hlow
    | succ k ih =>
      obtain ⟨hk, -⟩ := List.getElem?_eq_some_iff.mp ht
      have hprev : states[k]? = some (states.getD k s) := by
        rw [List.getD_eq_getElem?_getD, List.getElem?_eq_getElem (by omega)]
        rfl
      obtain ⟨params, state, -⟩ := ih _ hprev
      obtain ⟨hexec, hok, hlow⟩ := hrun (k + 1) _ t (List.getElem?_eq_getElem (hlen ▸ hk)) ht
      have after := sample_squelched hexec hok state (params ▸ hlow)
      rw [← params]
      exact after
  intro t ht
  obtain ⟨k, hk⟩ := List.mem_iff_getElem?.mp ht
  obtain ⟨-, state, chars⟩ := squelched k t hk
  exact ⟨state, chars⟩

end Sys2Proof.Machine
end

section
/-! The framing parser: FRM.PARSE accepts the strings of the grammar and no other (R190 to R192); the frame length of a
constructed framing (R193). -/

namespace Sys2Proof.Machine

/-! ## The grammar (R190) -/

/-- The digit of a data width. -/
def dataChar : DataBits → Char
  | .five => '5'
  | .seven => '7'
  | .eight => '8'

/-- The digits of a stop field. -/
def stopText : StopBits → List Char
  | .one => ['1']
  | .oneAndHalf => ['1', '.', '5']
  | .two => ['2']

/-- The suffix of a framing with a variable stop. -/
def suffixText (efr : Bool) : List Char := if efr then ['E', 'F', 'R'] else []

/-- The one string that specifies a framing. -/
def specText : FramingSpec → List Char
  | .fourOfSeven => ['4', '/', '7']
  | .async d st efr => dataChar d :: 'N' :: (stopText st ++ suffixText efr)

theorem parseData_eq_some_iff {b : Byte} {d : DataBits} : parseData b = some d ↔ b = asciiByte (dataChar d) := by
  constructor
  · unfold parseData
    split_ifs <;> rintro ⟨⟩ <;> assumption
  · rintro rfl
    cases d <;> rfl

theorem parseStop_eq_some_iff {t : List Byte} {st : StopBits} {efr : Bool} :
    parseStop t = some (st, efr) ↔ t = asciiBytes (stopText st ++ suffixText efr) := by
  constructor
  · unfold parseStop
    split_ifs <;> rintro ⟨⟩ <;> assumption
  · rintro rfl
    cases st <;> cases efr <;> rfl

/-- The bytes of an asynchronous specification: data, `N`, stop (R190). -/
theorem asciiBytes_async (d : DataBits) (st : StopBits) (efr : Bool) : asciiBytes (specText (.async d st efr))
    = asciiByte (dataChar d) :: asciiByte 'N' :: asciiBytes (stopText st ++ suffixText efr) := rfl

theorem asciiBytes_async_ne_group (d : DataBits) (st : StopBits) (efr : Bool) :
    asciiBytes (specText (.async d st efr)) ≠ asciiBytes ['4', '/', '7'] := by
  have second : asciiByte 'N' ≠ asciiByte '/' := by decide
  rw [asciiBytes_async]
  intro h
  exact second (List.cons.inj (List.cons.inj h).2).1

/-- The parser accepts each string of the grammar as its framing, and no other string (R190). -/
theorem parseSpec_eq_some_iff {t : List Byte} {spec : FramingSpec} :
    parseSpec t = some spec ↔ t = asciiBytes (specText spec) := by
  constructor
  · unfold parseSpec
    split
    · rintro ⟨⟩
      assumption
    · split
      · split
        · next hdata hstop =>
          split
          · next hN =>
            rintro ⟨⟩
            rw [asciiBytes_async, ← parseData_eq_some_iff.mp hdata, ← parseStop_eq_some_iff.mp hstop, hN]
          · nofun
        · nofun
      · nofun
  · rintro rfl
    cases spec with
    | fourOfSeven => rfl
    | async d st efr =>
      unfold parseSpec
      rw [if_neg (asciiBytes_async_ne_group d st efr), asciiBytes_async]
      dsimp only
      rw [parseData_eq_some_iff.mpr rfl, parseStop_eq_some_iff.mpr rfl]
      exact if_pos rfl

theorem frmParse_eq_some_iff {text : PortText} {d : Descriptor} :
    frmParse text = some d ↔ ∃ spec, portString text = asciiBytes (specText spec) ∧ descriptorOf spec = d := by
  simp only [frmParse, Option.map_eq_some_iff, parseSpec_eq_some_iff]

/-! ## The table (R192) -/

/-- The asynchronous rows of R192, by data width and stop field. -/
def asyncRows : List (List Char × Descriptor) :=
  [.five, .seven, .eight].flatMap fun d => [.one, .oneAndHalf, .two].map fun st =>
    (specText (.async d st false), descriptorOf (.async d st false))

theorem mem_asyncRows {r : List Char × Descriptor} :
    r ∈ asyncRows ↔ ∃ d st, r = (specText (.async d st false), descriptorOf (.async d st false)) := by
  have widths (d : DataBits) : d ∈ [DataBits.five, .seven, .eight] := by cases d <;> decide
  have stops (st : StopBits) : st ∈ [StopBits.one, .oneAndHalf, .two] := by cases st <;> decide
  simp only [asyncRows, List.mem_flatMap, List.mem_map, widths, stops, true_and, eq_comm]

/-- `EFR` appends to the string and adds `varStop` (R191). -/
theorem async_efr (d : DataBits) (st : StopBits) :
    specText (.async d st true) = specText (.async d st false) ++ ['E', 'F', 'R']
    ∧ descriptorOf (.async d st true) = { descriptorOf (.async d st false) with varStop := true } := by
  cases st <;> exact ⟨rfl, rfl⟩

/-- FRM.PARSE answers a descriptor exactly for the string of `4/7` and those of the rows, with `EFR` or
without it (R192). -/
theorem frmParse_eq_some_iff_row {text : PortText} {d : Descriptor} : frmParse text = some d ↔
    (portString text = asciiBytes ['4', '/', '7'] ∧ d = ⟨0, 7, .none, 7, false, false⟩)
    ∨ ∃ r ∈ asyncRows, (portString text = asciiBytes r.1 ∧ d = r.2)
        ∨ (portString text = asciiBytes (r.1 ++ ['E', 'F', 'R']) ∧ d = { r.2 with varStop := true }) := by
  rw [frmParse_eq_some_iff]
  constructor
  · rintro ⟨spec, htext, rfl⟩
    cases spec with
    | fourOfSeven => exact .inl ⟨htext, rfl⟩
    | async width st efr =>
      refine .inr ⟨_, mem_asyncRows.mpr ⟨width, st, rfl⟩, ?_⟩
      obtain ⟨efrText, efrDesc⟩ := async_efr width st
      cases efr with
      | false => exact .inl ⟨htext, rfl⟩
      | true => exact .inr ⟨efrText ▸ htext, efrDesc⟩
  · rintro (⟨htext, rfl⟩ | ⟨r, hr, hrow⟩)
    · exact ⟨.fourOfSeven, htext, rfl⟩
    · obtain ⟨width, st, rfl⟩ := mem_asyncRows.mp hr
      obtain ⟨efrText, efrDesc⟩ := async_efr width st
      rcases hrow with ⟨htext, rfl⟩ | ⟨htext, rfl⟩
      · exact ⟨.async width st false, htext, rfl⟩
      · exact ⟨.async width st true, efrText ▸ htext, efrDesc⟩

theorem exec_frmParse (text : PortText) (s : State) :
    exec (.frmParse text) s = .next (s.setRet (.descriptor (frmParse text))) := rfl

/-- Settles O50: a descriptor comes from the one string of its framing, and the asynchronous framings are the rows. -/
theorem frmParseTable : Obligations.FrmParseTable :=
  fun text s _ => ⟨exec_frmParse text s, frmParse_eq_some_iff_row⟩

/-! ## The frame length (R193) -/

theorem exec_getNBits (s : State) : exec .getNBits s = .next (s.setRet (.count s.cfg.T)) := rfl

theorem exec_getMsb (s : State) : exec .getMsb s = .next (s.setRet (.mask s.cfg.msb)) := rfl

/-- CONSTRUCT latches the frame length of its framing (R193, R262). -/
theorem ConfigWf.T_eq {P : Params} {c : Latched} (h : ConfigWf P c) : c.T = c.desc.totalBits := by
  obtain ⟨p, spec, enc, rfl, -, -⟩ := h
  rfl

/-- Settles O24, by what CONSTRUCT latched. -/
theorem frameLengthQueries : Obligations.FrameLengthQueries := by
  intro s h
  obtain ⟨nbits, -⟩ := h.lengthPorts
  have mask : s.cfg.msb = (1 : RawCode) <<< (s.cfg.desc.totalBits - 1) := by rw [h.msb_eq, h.T_eq]
  refine ⟨?_, ?_, nbits, mask⟩
  · rw [exec_getNBits, h.T_eq]
    rfl
  · rw [exec_getMsb, mask]
    rfl

end Sys2Proof.Machine
end

section
/-! The framing validator, bit by bit: the fields of a raw code, FRM.CHECK and FRM.EXTRACT (R194 to R196). -/

namespace Sys2Proof.Machine

/-! ## The bits of a field -/

theorem testBit_bitsAt (w : RawCode) (lo len i : Nat) :
    (bitsAt w lo len).testBit i = (decide (i < len) && w.getLsbD (lo + i)) := by
  rw [bitsAt, Nat.testBit_mod_two_pow, Nat.testBit_div_two_pow, BitVec.testBit_toNat, Nat.add_comm]

theorem bitsAt_eq_zero_iff {w : RawCode} {lo len : Nat} :
    bitsAt w lo len = 0 ↔ ∀ i < len, w.getLsbD (lo + i) = false := by
  simp only [Nat.eq_iff_testBit_eq, testBit_bitsAt, Nat.zero_testBit, Bool.and_eq_false_imp, decide_eq_true_eq]

theorem bitsAt_eq_ones_iff {w : RawCode} {lo len : Nat} :
    bitsAt w lo len = 2 ^ len - 1 ↔ ∀ i < len, w.getLsbD (lo + i) = true := by
  simp only [Nat.eq_iff_testBit_eq, testBit_bitsAt, Nat.testBit_two_pow_sub_one]
  simp

theorem forall_lt_one_iff {p : Nat → Prop} : (∀ i < 1, p i) ↔ p 0 := by
  simp only [Nat.lt_one_iff, forall_eq]

theorem forall_lt_two_iff {p : Nat → Prop} : (∀ i < 2, p i) ↔ p 0 ∧ p 1 :=
  Nat.forall_lt_succ_right.trans (and_congr_left' forall_lt_one_iff)

theorem forall_lt_three_iff {p : Nat → Prop} : (∀ i < 3, p i) ↔ (p 0 ∧ p 1) ∧ p 2 :=
  Nat.forall_lt_succ_right.trans (and_congr_left' forall_lt_two_iff)

theorem bitsAt_one (w : RawCode) (lo : Nat) : bitsAt w lo 1 = (w.getLsbD lo).toNat := by
  cases h : w.getLsbD lo with
  | false => exact bitsAt_eq_zero_iff.mpr (forall_lt_one_iff.mpr h)
  | true => exact bitsAt_eq_ones_iff.mpr (forall_lt_one_iff.mpr h)

/-- A pair is `00` or `11` exactly if its two bits agree (R195). -/
theorem pair_legal_iff (w : RawCode) (lo : Nat) :
    bitsAt w lo 2 = 0 ∨ bitsAt w lo 2 = 3 ↔ w.getLsbD lo = w.getLsbD (lo + 1) := by
  have zero : bitsAt w lo 2 = 0 ↔ w.getLsbD lo = false ∧ w.getLsbD (lo + 1) = false :=
    bitsAt_eq_zero_iff.trans forall_lt_two_iff
  have ones : bitsAt w lo 2 = 3 ↔ w.getLsbD lo = true ∧ w.getLsbD (lo + 1) = true :=
    bitsAt_eq_ones_iff.trans forall_lt_two_iff
  rw [zero, ones]
  cases w.getLsbD lo <;> cases w.getLsbD (lo + 1) <;> decide

/-! ## FRM.CHECK (R194, R195) -/

theorem exec_frmCheck (code : RawCode) (s : State) :
    exec (.frmCheck code) s = .next (s.setRet (.flag (frmCheck s.cfg.desc code))) := rfl

theorem exec_frmCheckDoubled (code : RawCode) (s : State) :
    exec (.frmCheckDoubled code) s = .next (s.setRet (.flag (frmCheckDoubled s.cfg.desc code))) := rfl

/-- A frame with whole stop bits is valid if its start bit is 0 and its stop bits are ones (R194). -/
theorem frmCheckPlain_iff {d : Descriptor} {code : RawCode} {S : Nat} (hS : d.stopBits.whole = S)
    (hT : d.totalBits = 1 + d.dataBits + S) : frmCheckPlain d code = true ↔
      code.getLsbD 0 = false ∧ ∀ i < S, code.getLsbD (d.dataBits + 1 + i) = true := by
  have stop : d.totalBits - S = d.dataBits + 1 := by omega
  simp [frmCheckPlain, codeField, hS, stop, bitsAt_eq_ones_iff, bitsAt_eq_zero_iff]

theorem frmCheck_one (d : DataBits) (efr : Bool) (code : RawCode) :
    frmCheck (descriptorOf (.async d .one efr)) code = (!code.getLsbD 0 && code.getLsbD (d.count + 1)) := by
  have plain : frmCheck (descriptorOf (.async d .one efr)) code
    = frmCheckPlain (descriptorOf (.async d .one efr)) code := rfl
  rw [plain, Bool.eq_iff_iff, frmCheckPlain_iff (S := 1) rfl rfl, forall_lt_one_iff, Bool.and_eq_true,
    Bool.not_eq_true']
  rfl

theorem frmCheck_two (d : DataBits) (efr : Bool) (code : RawCode) : frmCheck (descriptorOf (.async d .two efr)) code
    = (!code.getLsbD 0 && code.getLsbD (d.count + 1) && code.getLsbD (d.count + 2)) := by
  have plain : frmCheck (descriptorOf (.async d .two efr)) code
    = frmCheckPlain (descriptorOf (.async d .two efr)) code := rfl
  rw [plain, Bool.eq_iff_iff, frmCheckPlain_iff (S := 2) rfl rfl, forall_lt_two_iff, Bool.and_eq_true, Bool.and_eq_true,
    Bool.not_eq_true', and_assoc]
  rfl

/-- A doubled frame: both start bits 0, three stop bits, and the two bits of each data pair equal (R195). -/
theorem frmCheckDoubled_async (d : DataBits) (efr : Bool) (code : RawCode) :
    frmCheckDoubled (descriptorOf (.async d .oneAndHalf efr)) code = (!code.getLsbD 0 && !code.getLsbD 1
      && code.getLsbD (2 * d.count + 2) && code.getLsbD (2 * d.count + 3) && code.getLsbD (2 * d.count + 4)
      && (List.range d.count).all (fun i => code.getLsbD (2 * i + 2) == code.getLsbD (2 * i + 3))) := by
  have place : (descriptorOf (.async d .oneAndHalf efr)).totalBits - 3 = 2 * d.count + 2 := by
    show 2 * (1 + d.count) + 3 - 3 = _
    omega
  have width : (descriptorOf (.async d .oneAndHalf efr)).dataBits = d.count := rfl
  have start : bitsAt code 0 2 = 0 ↔ code.getLsbD 0 = false ∧ code.getLsbD 1 = false :=
    bitsAt_eq_zero_iff.trans forall_lt_two_iff
  have stop : bitsAt code (2 * d.count + 2) 3 = 7 ↔ (code.getLsbD (2 * d.count + 2) = true
      ∧ code.getLsbD (2 * d.count + 3) = true) ∧ code.getLsbD (2 * d.count + 4) = true :=
    bitsAt_eq_ones_iff.trans forall_lt_three_iff
  rw [Bool.eq_iff_iff]
  simp only [frmCheckDoubled, codeField, place, width, Bool.and_eq_true, decide_eq_true_eq,
    List.all_eq_true, Bool.or_eq_true, beq_iff_eq, pair_legal_iff, start, stop, Bool.not_eq_true', and_assoc]

/-- Settles O51, descriptor by descriptor. -/
theorem frmCheckEffect : Obligations.FrmCheckEffect := by
  intro d efr code s
  refine ⟨fun h => ?_, fun h => ?_, fun h => ?_⟩
  · rw [exec_frmCheck, h, frmCheck_one]
    rfl
  · rw [exec_frmCheck, h, frmCheck_two]
    rfl
  · have doubled : frmCheck (descriptorOf (.async d .oneAndHalf efr)) code
      = frmCheckDoubled (descriptorOf (.async d .oneAndHalf efr)) code := rfl
    rw [exec_frmCheck, exec_frmCheckDoubled, h, doubled, frmCheckDoubled_async]
    exact ⟨rfl, rfl⟩

/-! ## FRM.EXTRACT (R196) -/

theorem exec_frmExtract (code : RawCode) (s : State) :
    exec (.frmExtract code) s = .next (s.setRet (.data (frmExtract s.cfg.desc code))) := rfl

/-- A number below `2^n`, `n <= 8`, keeps its bits as a data code. -/
theorem getLsbD_dataCode {n v : Nat} (hn : n ≤ 8) (hv : v < 2 ^ n) (i : Nat) :
    (BitVec.ofNat 8 v : DataCode).getLsbD i = v.testBit i := by
  have small : v < 2 ^ 8 := hv.trans_le (Nat.pow_le_pow_right (by decide) hn)
  rw [← BitVec.testBit_toNat, BitVec.toNat_ofNat, Nat.mod_eq_of_lt small]

/-- A field of at most 8 bits as a data code, bit by bit. -/
theorem getLsbD_field (code : RawCode) (lo : Nat) {len : Nat} (hlen : len ≤ 8) (i : Nat) :
    (BitVec.ofNat 8 (bitsAt code lo len) : DataCode).getLsbD i = (decide (i < len) && code.getLsbD (lo + i)) := by
  rw [getLsbD_dataCode hlen (bitsAt_lt code lo len), testBit_bitsAt]

/-- A sum of bits at their places has these bits and no other. -/
theorem testBit_sum_bits (b : Nat → Bool) (n i : Nat) :
    (∑ j ∈ Finset.range n, 2 ^ j * (b j).toNat).testBit i = (decide (i < n) && b i) := by
  have bit (j : Nat) : (b j).toNat < 2 := Bool.toNat_lt _
  by_cases hi : i < n
  · have digit := digit_sum_digits bit hi 0
    rw [Nat.mul_zero, Nat.add_zero] at digit
    rw [Nat.testBit_eq_decide_div_mod_eq, digit]
    cases b i <;> simp [hi]
  · have below := (sum_digits_lt bit n).trans_le (Nat.pow_le_pow_right (by decide) (Nat.le_of_not_lt hi))
    rw [Nat.testBit_lt_two_pow below, decide_eq_false hi, Bool.false_and]

/-- The lower bits of the pairs, collapsed to a data code (R196). -/
theorem getLsbD_frmExtract_doubled (d : DataBits) (efr : Bool) (code : RawCode) (i : Nat) :
    (frmExtract (descriptorOf (.async d .oneAndHalf efr)) code).getLsbD i
      = (decide (i < d.count) && code.getLsbD (2 * i + 2)) := by
  have extracted : frmExtract (descriptorOf (.async d .oneAndHalf efr)) code
    = BitVec.ofNat 8 ((List.range d.count).foldl (fun v j => v + bitsAt code (2 * j + 2) 1 * 2 ^ j) 0) := rfl
  have term (j : Nat) : bitsAt code (2 * j + 2) 1 * 2 ^ j = 2 ^ j * (code.getLsbD (2 * j + 2)).toNat := by
    rw [bitsAt_one, Nat.mul_comm]
  rw [extracted, foldl_add_eq_sum, Finset.sum_congr rfl fun j _ => term j,
    getLsbD_dataCode (dataBits_count_le d) (sum_digits_lt (fun _ => Bool.toNat_lt _) d.count), testBit_sum_bits]

/-- The middle field of a frame with whole stop bits (R196). -/
theorem getLsbD_frmExtract_plain {d : DataBits} {st : StopBits} (hst : st ≠ .oneAndHalf) (efr : Bool) (code : RawCode)
    (i : Nat) : (frmExtract (descriptorOf (.async d st efr)) code).getLsbD i
      = (decide (i < d.count) && code.getLsbD (i + 1)) := by
  have extracted : frmExtract (descriptorOf (.async d st efr)) code = BitVec.ofNat 8 (bitsAt code 1 d.count) := by
    cases st with
    | one => rfl
    | two => rfl
    | oneAndHalf => exact absurd rfl hst
  rw [extracted, getLsbD_field code 1 (dataBits_count_le d), Nat.add_comm]

/-- The whole group of `4/7` (R196). -/
theorem getLsbD_frmExtract_group (code : RawCode) (i : Nat) :
    (frmExtract (descriptorOf .fourOfSeven) code).getLsbD i = (decide (i < 7) && code.getLsbD i) := by
  have extracted : frmExtract (descriptorOf .fourOfSeven) code = BitVec.ofNat 8 (bitsAt code 0 7) := rfl
  rw [extracted, getLsbD_field code 0 (by decide), Nat.zero_add]

/-- Settles O52, by the three layouts of a raw code. -/
theorem frmExtractEffect : Obligations.FrmExtractEffect := by
  intro spec code s h
  refine ⟨_, h ▸ exec_frmExtract code s, fun i => ?_⟩
  cases spec with
  | fourOfSeven => exact getLsbD_frmExtract_group code i
  | async d st efr =>
    cases st with
    | one => exact getLsbD_frmExtract_plain (by decide) efr code i
    | two => exact getLsbD_frmExtract_plain (by decide) efr code i
    | oneAndHalf => exact getLsbD_frmExtract_doubled d efr code i

end Sys2Proof.Machine
end

section
/-! DEC.CHECK, DEC.CHAR and DEC.RST by the selected encoding (R197 to R199). -/

namespace Sys2Proof.Machine

/-! ## DEC.CHECK (R197) -/

theorem exec_decCheck (code : RawCode) (s : State) :
    exec (.decCheck code) s = .next (s.setRet (.flag (decCheck s code))) := rfl

theorem decCheck_ccir476 {s : State} (h : s.cfg.enc = .ccir476) (code : RawCode) :
    decCheck s code = fecCheck (code.truncate 7) := by
  rw [decCheck, h]
  rfl

/-- ITA2.CHECK and ASC.CHECK are always true, so what is left is FRM.CHECK (R197, R231, R251). -/
theorem decCheck_framed {s : State} (h : s.cfg.enc ≠ .ccir476) (code : RawCode) :
    decCheck s code = frmCheck s.cfg.desc code := by
  unfold decCheck
  split
  · next henc => exact absurd henc h
  · exact Bool.and_true _
  · exact Bool.and_true _

/-! ## DEC.CHAR (R198) -/

/-- ITA2.CHAR reads no tally, so counting before it or after it is the same (R45, R303). -/
theorem ita2Char_countSuccess (P : Params) (d : BitVec 5) (s : State) :
    ita2Char P d (countSuccess P s) = (countSuccess P (ita2Char P d s).1, (ita2Char P d s).2) := by
  have counted : SameButTallies s (countSuccess P s) := ⟨_, _, rfl⟩
  obtain ⟨decoded, char⟩ := counted.ita2Char (P := P) d
  refine Prod.ext ?_ char
  rw [ita2Char_frame P d (countSuccess P s), decoded.ita2, ita2Char_frame P d s]
  rfl

section
variable {s : State} {code : RawCode}

theorem decChar_ccir476 (P : Params) (h : s.cfg.enc = .ccir476) :
    decChar P code s = fecChar P (code.truncate 7) s := by
  rw [decChar, h]
  rfl

/-- A frame that fails FRM.CHECK is counted and gives no character; the encoding's state is not touched (R198). -/
theorem decChar_invalid (P : Params) (h : s.cfg.enc ≠ .ccir476) (hinvalid : frmCheck s.cfg.desc code = false) :
    decChar P code s = (countFailure P s, none, false) := by
  unfold decChar
  split
  · next henc => exact absurd henc h
  · simp only [hinvalid, Bool.false_eq_true, if_false]
  · simp only [hinvalid, Bool.false_eq_true, if_false]

theorem decChar_ita2 (P : Params) (h : s.cfg.enc = .ita2) (hvalid : frmCheck s.cfg.desc code = true) :
    let result := ita2Char P ((frmExtract s.cfg.desc code).truncate 5) s
    decChar P code s = (countSuccess P result.1, result.2, true) := by
  intro result
  rw [decChar, h]
  simp only [hvalid, if_true, ita2Char_countSuccess]
  rfl

end

/-! ## DEC.RST (R199) -/

theorem decRst_ccir476 {s : State} (h : s.cfg.enc = .ccir476) : decRst s = fecRst s := by rw [decRst, h]

theorem decRst_ita2 {s : State} (h : s.cfg.enc = .ita2) : decRst s = ita2Rst s := by rw [decRst, h]

theorem decRst_ascii {s : State} (h : s.cfg.enc = .ascii) : decRst s = ascRst s := by rw [decRst, h]

/-! ## The calls of the encodings' own decoders -/

theorem exec_fecCheck (d : BitVec 7) (s : State) : exec (.fecCheck d) s = .next (s.setRet (.flag (fecCheck d))) := rfl

theorem exec_fecChar (d : BitVec 7) (s : State) : exec (.fecChar d) s = .next
    ((fecChar s.params d s).1.setRet (.charOk (fecChar s.params d s).2.1 (fecChar s.params d s).2.2)) := rfl

theorem exec_fecRst (s : State) : exec .fecRst s = .next (fecRst s) := rfl

theorem exec_ita2Char (d : BitVec 5) (s : State) : exec (.ita2Char d) s
    = .next ((ita2Char s.params d s).1.setRet (.char (ita2Char s.params d s).2)) := rfl

theorem exec_ita2Rst (s : State) : exec .ita2Rst s = .next (ita2Rst s) := rfl

theorem exec_ascChar (d : DataCode) (s : State) : exec (.ascChar d) s = .next (ascCall d s) := rfl

theorem exec_ascRst (s : State) : exec .ascRst s = .next (ascRst s) := rfl

/-- Settles O53, encoding by encoding. -/
theorem decoderDispatch : Obligations.DecoderDispatch := by
  intro code s
  have decChar_call := exec_decChar (s := s) rfl code
  refine ⟨⟨_, _, _, exec_decCheck code s, decChar_call, exec_decRst s⟩, fun h => ⟨?_, ?_, ?_⟩,
    fun h => ⟨?_, fun hinvalid => ?_⟩, fun h => ?_, fun h => ?_, fun h hvalid => ?_, fun h hvalid => ?_⟩
  · rw [exec_decCheck, exec_fecCheck, decCheck_ccir476 h]
  · rw [decChar_call, exec_fecChar, decCharCall, decChar_ccir476 _ h]
  · rw [exec_decRst, exec_fecRst, decRst_ccir476 h]
  · rw [exec_decCheck, exec_frmCheck, decCheck_framed h]
  · rw [decChar_call, decCharCall, decChar_invalid _ h hinvalid]
    rfl
  · rw [exec_decRst, exec_ita2Rst, decRst_ita2 h]
  · rw [exec_decRst, exec_ascRst, decRst_ascii h]
  · refine ⟨_, _, exec_ita2Char _ s, rfl, ?_⟩
    rw [decChar_call, decCharCall, decChar_ita2 _ h hvalid, ita2Char_frame]
    rfl
  · refine ⟨_, _, exec_ascChar _ s, rfl, ?_⟩
    rw [decChar_call, decCharCall, decChar_ascii _ h hvalid]
    rfl

end Sys2Proof.Machine
end

section
/-! FEC.CHECK and FEC.RST (R211, R216), and the default glyph tables (R218, R236). -/

namespace Sys2Proof.Machine

/-! ## The weight of a 4-of-7 code (R211) -/

/-- The length that counts the set bits, as a sum of the bits. -/
theorem popcount_eq_sum (d : BitVec 7) : popcount d = ∑ i ∈ Finset.range 7, (d.getLsbD i).toNat := by
  have counted (n : Nat) : ((List.range n).filter (fun i => d.getLsbD i)).length
      = ∑ i ∈ Finset.range n, (d.getLsbD i).toNat := by
    induction n with
    | zero => rfl
    | succ n ih =>
      rw [List.range_succ, List.filter_append, List.length_append, ih, Finset.sum_range_succ]
      cases h : d.getLsbD n <;> simp [h]
  exact counted 7

theorem fecCheck_eq_decide_sum (d : BitVec 7) :
    fecCheck d = decide (∑ i ∈ Finset.range 7, (d.getLsbD i).toNat = 4) := by
  rw [← popcount_eq_sum]
  rfl

/-- Settles O54: the count of set bits is the sum of the seven bits, and FEC.RST is its frame lemma. -/
theorem fecCheckAndReset : Obligations.FecCheckAndReset := by
  intro d s
  constructor
  · rw [exec_fecRst, fecRst_frame]
  · rw [exec_fecCheck, fecCheck_eq_decide_sum]
    simp only [Finset.sum_range_succ, Finset.sum_range_zero, Nat.zero_add]
    rfl

/-! ## The default glyph tables (R218, R236) -/

section
variable (d : BitVec 5) (v : BitVec 7)

@[simp] theorem reset_ita2Ltrs_at : State.reset.params.ita2Ltrs.at d = ita2Ltrs d := GlyphTable_tabulate_at _ d

@[simp] theorem reset_ita2Figs_at : State.reset.params.ita2Figs.at d = ita2Figs d := GlyphTable_tabulate_at _ d

@[simp] theorem reset_fecLtrs_at : State.reset.params.fecLtrs.at v = fecLtrs v := GlyphTable_tabulate_at _ v

@[simp] theorem reset_fecFigs_at : State.reset.params.fecFigs.at v = fecFigs v := GlyphTable_tabulate_at _ v

end

/-- The first ITA2 code with the letter of a 4-of-7 code. -/
def ita2Partner (v : BitVec 7) : BitVec 5 :=
  BitVec.ofNat 5 ((List.range 32).findIdx fun i => ita2Ltrs (BitVec.ofNat 5 i) = fecLtrs v)

/-- A code of another weight stands in no row of R218. -/
theorem fecGlyphs_none_of_invalid : ∀ v, fecCheck v = false → fecLtrs v = none ∧ fecFigs v = none := by decide

/-- The partner is chosen by its letter; that its figure agrees too is a fact of the two tables. -/
theorem fecGlyphs_eq_ita2Partner : ∀ v, fecCheck v = true → v ∉ [0x66, 0x0F, 0x33, 0x6A, 0x5A, 0x36] →
    fecLtrs v = ita2Ltrs (ita2Partner v) ∧ fecFigs v = ita2Figs (ita2Partner v) ∧ (fecLtrs v).isSome := by decide

/-- Settles O56: on the defaults each table answers its function's values, which are compared with the rows of R236 and
R218; the ITA2 partner of a printing code is the code of its letter. -/
theorem glyphTablesCorrespond : Obligations.GlyphTablesCorrespond := by
  unfold Obligations.GlyphTablesCorrespond
  intro ita2Rows fecRows P
  simp only [P, reset_ita2Ltrs_at, reset_ita2Figs_at, reset_fecLtrs_at, reset_fecFigs_at]
  refine ⟨rfl, ?ita2_rows, rfl, ?fec_no_row, fun v => ⟨fecGlyphs_none_of_invalid v, fun valid prints =>
    ⟨ita2Partner v, fecGlyphs_eq_ita2Partner v valid prints⟩⟩⟩
  case ita2_rows => decide
  case fec_no_row => decide

end Sys2Proof.Machine
end

section
/-! ITA2.CHECK and ITA2.RST (R231, R235), and what a run of ITA2.CHAR calls leaves (R233, R234). -/

namespace Sys2Proof.Machine

/-- Settles O59: ITA2.CHECK records its constant, and ITA2.RST is its frame lemma. -/
theorem ita2CheckAndReset : Obligations.Ita2CheckAndReset := by
  intro d s
  refine ⟨rfl, ?_⟩
  rw [exec_ita2Rst, ita2Rst_frame]

/-! ## The last shift code of a run -/

/-- A space with `USOS` on counts as a Letters shift (R234). -/
def unshifts (P : Params) (d : BitVec 5) : Bool := P.usos && decide (d = spaceCode)

/-- The codes that decide the shift: the two shift codes and the unshifting space (R233, R234). -/
def decidesShift (P : Params) (d : BitVec 5) : Bool := decide (d = figsCode ∨ d = ltrsCode) || unshifts P d

/-- The shift in which the code after a run prints: Figures when the last deciding code of the run is Figures shift. -/
def figuresAfter (P : Params) (codes : List (BitVec 5)) : Bool :=
  decide ((codes.filter (decidesShift P)).getLast? = some figsCode)

section
variable {P : Params} {d : BitVec 5} {codes : List (BitVec 5)}

theorem unshifts_iff : unshifts P d = true ↔ P.usos = true ∧ d = spaceCode := by
  simp [unshifts]

theorem unshifts_of_shiftCode (h : d = figsCode ∨ d = ltrsCode) : unshifts P d = false := by
  have notSpace : d ≠ spaceCode := by
    rintro rfl
    revert h
    decide
  simp [unshifts, notSpace]

theorem figuresAfter_concat_of_decides (h : decidesShift P d = true) :
    figuresAfter P (codes ++ [d]) = decide (d = figsCode) := by
  simp [figuresAfter, h]

theorem figuresAfter_concat_of_not_decides (h : decidesShift P d = false) :
    figuresAfter P (codes ++ [d]) = figuresAfter P codes := by
  simp [figuresAfter, h]

/-- One more code: its own unshift comes at once, its shift at the call after it (R233, R234). -/
theorem figuresAfter_concat :
    figuresAfter P (codes ++ [d]) = shiftAfter d (figuresAfter P codes && !unshifts P d) := by
  by_cases hfigs : d = figsCode
  · rw [figuresAfter_concat_of_decides (by simp [decidesShift, hfigs])]
    simp [shiftAfter, hfigs]
  by_cases hltrs : d = ltrsCode
  · rw [figuresAfter_concat_of_decides (by simp [decidesShift, hltrs])]
    simp [shiftAfter, hltrs]
  have printing (shift : Bool) : shiftAfter d shift = shift := by simp [shiftAfter, hfigs, hltrs]
  rw [printing]
  cases hspace : unshifts P d with
  | true =>
    rw [figuresAfter_concat_of_decides (by simp [decidesShift, hspace])]
    simp [hfigs]
  | false =>
    rw [figuresAfter_concat_of_not_decides (by simp [decidesShift, hfigs, hltrs, hspace])]
    simp

end

/-! ## ITA2.CHAR after a run of calls -/

/-- ITA2.CHAR with a filled lookback, a shift code or a printing one (R233, R234). -/
theorem ita2Char_of_lookValid {P : Params} {s : State} {d : BitVec 5} (h : s.ita2.lookValid = true) :
    let shift := shiftAfter s.ita2.look s.ita2.shift
    ita2Char P d s = (s.setIta2 ⟨shift && !unshifts P d, true, d⟩,
      if d = figsCode ∨ d = ltrsCode then none else if shift then P.ita2Figs.at d else P.ita2Ltrs.at d) := by
  intro shift
  by_cases hd : d = figsCode ∨ d = ltrsCode
  · rw [ita2Char_shiftCode h hd, unshifts_of_shiftCode hd, if_pos hd, Bool.not_false, Bool.and_true]
  · have unshift : (if P.usos = true ∧ d = spaceCode then false else shift) = (shift && !unshifts P d) := by
      cases hspace : unshifts P d <;> simp [← unshifts_iff, hspace]
    rw [ita2Char_printing h hd, if_neg hd, ← unshift]

/-- After ITA2.RST and any run, the last deciding code of the run gives the shift of one more call (R233 to R235). -/
theorem ita2Char_afterRun (P : Params) (s : State) (codes : List (BitVec 5)) (d : BitVec 5) :
    ita2Char P d (codes.foldl (fun st d => (ita2Char P d st).1) (ita2Rst s))
      = (s.setIta2 ⟨figuresAfter P codes && !unshifts P d, true, d⟩,
        if codes = [] ∨ d = figsCode ∨ d = ltrsCode then none
        else if figuresAfter P codes then P.ita2Figs.at d else P.ita2Ltrs.at d) := by
  induction codes using List.reverseRecOn generalizing d with
  | nil =>
    rw [List.foldl_nil, ita2Char_first rfl, if_pos (.inl rfl)]
    rfl
  | append_singleton codes prev ih =>
    rw [List.foldl_concat, ih prev, ita2Char_of_lookValid rfl]
    simp only [State.setIta2_ita2, State.setIta2_setIta2, ← figuresAfter_concat, List.concat_ne_nil, false_or]

/-- Settles O58, by `ita2Char_afterRun`. -/
theorem ita2ShiftFollowsLastShiftCode : Obligations.Ita2ShiftFollowsLastShiftCode := by
  intro codes last s run unshifts lastShift figures c
  have params : (codes.foldl run (ita2Rst s)).params = s.params :=
    List.foldlRecOn codes run (b := ita2Rst s) (motive := fun st => st.params = s.params) rfl
      fun st h d _ => (ita2Char_keepsConfig s.params d st).params.trans h
  rw [exec_ita2Char, params, ita2Char_afterRun]
  rfl

end Sys2Proof.Machine
end

section
/-! One step, and the host commands: their words, their result codes and what a refusal leaves (R260 to R271, R290 to R293,
R321); what a stopped block receives (R304). -/

namespace Sys2Proof.Machine

/-! ## The step (R261) -/

theorem step_word {s : State} {sp : Space} {w : RawCode} {rest : List Input} (h : s.inbox = .word sp w :: rest) :
    step s = runWord sp w (take rest s) := by
  rw [step, runInbox, h]

theorem runWord_of_decode {sp : Space} {w : RawCode} {i : Instr} (h : decode sp w = .ok i) (s : State) :
    runWord sp w s = exec i s := by
  simp only [runWord, h]

/-- Settles O5: the word is taken from the inbox, decoded and run. -/
theorem stepRunsDecodedInstruction : Obligations.StepRunsDecodedInstruction := by
  intro s sp w rest i hinbox hdecode
  rw [step_word hinbox, runWord_of_decode hdecode]
  rfl

/-! ## The command words (R81, R82) -/

/-- The opcode and the operand written as a sum are the encoder's word. -/
theorem commandWord_eq_encodeCommand {op : Nat} (hop : op < 16) (imm : Sample) :
    (BitVec.ofNat 32 (op * 2 ^ 16) + imm.zeroExtend 32 : RawCode) = encodeCommand op imm := by
  have himm := imm.isLt
  apply BitVec.eq_of_toNat_eq
  simp only [encodeCommand_toNat hop, BitVec.toNat_add, BitVec.toNat_ofNat, BitVec.truncate_eq_setWidth,
    BitVec.toNat_setWidth]
  omega

theorem decode_commandWord {op : Nat} (hop : op < 16) (imm : Sample) :
    decode .command (BitVec.ofNat 32 (op * 2 ^ 16) + imm.zeroExtend 32) = .ok (commandRow op imm) := by
  rw [commandWord_eq_encodeCommand hop, decode_encodeCommand hop]

/-! ## What the commands execute -/

section
variable (imm : Sample) (s : State)

theorem exec_nop : exec (.nop imm) s = .next (raise .ok s) := rfl

theorem exec_construct : exec (.construct imm) s = .next (construct s.params s) := rfl

theorem exec_start : exec (.start imm) s = .next (start s) := rfl

theorem exec_stop : exec (.stop imm) s = .next (stop s) := rfl

theorem exec_reset : exec (.reset imm) s = .next (resetCommand s.params s) := rfl

theorem exec_sample : exec (.sample imm) s = .next (sample s.params imm s) := rfl

end

/-! ## NOP and STOP (R260, R271) -/

/-- Settles O7: the word of opcode 0 is its operand alone. -/
theorem nopChangesOnlyErr : Obligations.NopChangesOnlyErr := by
  intro imm s
  have word : (BitVec.ofNat 32 (0 * 2 ^ 16) + imm.zeroExtend 32 : RawCode) = imm.zeroExtend 32 := BitVec.zero_add _
  exact ⟨word ▸ decode_commandWord (by decide) imm, exec_nop imm s⟩

/-- Settles O10. -/
theorem stopEffect : Obligations.StopEffect := fun imm s =>
  ⟨decode_commandWord (op := 3) (by decide) imm, exec_stop imm s⟩

/-! ## START (R267) -/

section
variable {s : State}

theorem start_unconstructed (hc : s.ctl.constructed = false) : start s = raise .notConstructed s := by
  rw [start, hc, if_pos (by rfl)]

theorem start_running (hc : s.ctl.constructed = true) (hr : s.ctl.running = true) :
    start s = raise .alreadyRunning s := by
  rw [start, hc, if_neg (by decide), if_pos hr]

theorem start_stopped (hc : s.ctl.constructed = true) (hr : s.ctl.running = false) :
    start s = s.setCtl { s.ctl with running := true, err := .ok } := by
  rw [start, hc, if_neg (by decide), hr, if_neg (by decide)]

end

/-- Settles O9, by the two flags that START reads. -/
theorem startEffect : Obligations.StartEffect := by
  intro imm s
  refine ⟨decode_commandWord (op := 2) (by decide) imm, ?_⟩
  rw [exec_start]
  split
  · next hc => rw [start_unconstructed hc, raise_frame]
  · next hc =>
    have hc := eq_true_of_ne_false hc
    split
    · next hr => rw [start_running hc hr, raise_frame]
    · next hr =>
      rw [start_stopped hc (eq_false_of_ne_true hr)]
      rfl

/-! ## A refused SAMPLE (R269) -/

theorem sample_unconstructed {P : Params} {s : State} (hc : s.ctl.constructed = false) (x : Sample) :
    sample P x s = raise .notConstructed s := by
  rw [sample, hc, if_pos (by rfl)]

theorem sample_stopped {P : Params} {s : State} (hc : s.ctl.constructed = true) (hr : s.ctl.running = false)
    (x : Sample) : sample P x s = raise .notRunning s := by
  rw [sample, hc, if_neg (by decide), hr, if_pos (by rfl)]

/-- Settles O14, by the two refusals. -/
theorem sampleRefusedLeavesState : Obligations.SampleRefusedLeavesState := by
  intro x s
  refine ⟨fun hc => ?_, fun hc hr => ?_⟩
  · rw [exec_sample, sample_unconstructed hc, raise_frame]
  · rw [exec_sample, sample_stopped hc hr, raise_frame]

/-! ## A failing CONSTRUCT (R262, R293) -/

section
variable {P : Params} {s : State} {d : Descriptor} {enc : Encoding}

theorem construct_of_error {e : ErrCode} (h : constructCheck P s = .error e) : construct P s = raise e s := by
  rw [construct, h]

theorem constructCheck_running (hrun : s.ctl.running = true) : constructCheck P s = .error .alreadyRunning := by
  rw [constructCheck, if_pos hrun]

theorem constructCheck_badFraming (hrun : s.ctl.running = false) (hd : frmParse s.ports.framing = none) :
    constructCheck P s = .error .badFraming := by
  simp only [constructCheck, hrun, hd, Bool.false_eq_true, if_false]

theorem constructCheck_badEncoding (hrun : s.ctl.running = false) (hd : frmParse s.ports.framing = some d)
    (henc : ∀ enc, ¬NamesEncoding s.ports.encoding enc) : constructCheck P s = .error .badEncoding := by
  simp only [constructCheck, hrun, hd, (encSelect_eq_none_iff _).mpr henc, Bool.false_eq_true, if_false]

theorem constructCheck_badCombination (hrun : s.ctl.running = false) (hd : frmParse s.ports.framing = some d)
    (henc : NamesEncoding s.ports.encoding enc) (hpair : ¬PairLegal enc d) :
    constructCheck P s = .error .badCombination := by
  simp only [constructCheck, hrun, hd, (encSelect_eq_some_iff ..).mpr henc, mt (comboOk_iff enc d).mp hpair,
    Bool.false_eq_true, if_false]

theorem constructCheck_badConfig (hrun : s.ctl.running = false) (hd : frmParse s.ports.framing = some d)
    (henc : NamesEncoding s.ports.encoding enc) (hpair : PairLegal enc d) (hlegal : ¬ConfigLegal P s.ports d) :
    constructCheck P s = .error .badConfig := by
  simp only [constructCheck, hrun, hd, (encSelect_eq_some_iff ..).mpr henc, (comboOk_iff ..).mpr hpair,
    mt (configOk_iff P s.ports d enc).mp hlegal, Bool.false_eq_true, if_true, if_false]

/-- A check of CONSTRUCT fails with a code of R292. -/
theorem constructCheck_error_mem {e : ErrCode} (h : constructCheck s.params s = .error e) :
    e ∈ [ErrCode.alreadyRunning, .badFraming, .badEncoding, .badCombination, .badConfig] := by
  cases hrun : s.ctl.running with
  | true =>
    cases (constructCheck_running hrun).symm.trans h
    decide
  | false =>
    cases hd : frmParse s.ports.framing with
    | none =>
      cases (constructCheck_badFraming hrun hd).symm.trans h
      decide
    | some d =>
      by_cases hnames : ∃ enc, NamesEncoding s.ports.encoding enc
      · obtain ⟨enc, henc⟩ := hnames
        by_cases hpair : PairLegal enc d
        · by_cases hlegal : ConfigLegal s.params s.ports d
          · cases (constructCheck_ok hrun hd henc hpair hlegal).symm.trans h
          · cases (constructCheck_badConfig hrun hd henc hpair hlegal).symm.trans h
            decide
        · cases (constructCheck_badCombination hrun hd henc hpair).symm.trans h
          decide
      · cases (constructCheck_badEncoding hrun hd (not_exists.mp hnames)).symm.trans h
        decide

end

/-- Settles O12: each check that fails after the ones before it passed, as `construct_of_error` answers it. -/
theorem constructFirstFailureWins : Obligations.ConstructFirstFailureWins := by
  intro imm s failsWith
  have fails {e : ErrCode} (h : constructCheck s.params s = .error e) : failsWith e :=
    congrArg Host.Outcome.next (construct_of_error h)
  exact ⟨fun hrun => fails (constructCheck_running hrun),
    fun hrun hd => fails (constructCheck_badFraming hrun hd),
    fun _ hrun hd henc => fails (constructCheck_badEncoding hrun hd henc),
    fun _ _ hrun hd henc hpair => fails (constructCheck_badCombination hrun hd henc hpair),
    fun _ _ hrun hd henc hpair hlegal => fails (constructCheck_badConfig hrun hd henc hpair hlegal)⟩

/-! ## Power-on (R321) -/

/-- Settles O20: a block at power-on is neither constructed nor running. -/
theorem powerOnAccepts : Obligations.PowerOnAccepts := by
  intro imm P p s
  refine ⟨⟨_, exec_nop imm s, rfl⟩, ⟨_, exec_stop imm s, rfl⟩, ⟨_, exec_start imm s, ?_⟩, ⟨_, exec_reset imm s, ?_⟩,
    ⟨_, exec_sample imm s, ?_⟩, fun d enc hd henc hpair hlegal => ⟨_, exec_construct imm s, ?_⟩⟩
  · rw [start_unconstructed rfl]
    rfl
  · rw [resetCommand_unconstructed rfl]
    rfl
  · rw [sample_unconstructed rfl]
    rfl
  · rw [construct_eq (constructCheck_ok (s := s) rfl hd henc hpair hlegal)]

/-! ## Result codes (R290, R292) -/

/-- The command completes with one of these codes, and with an error changes nothing else (R290). -/
structure CompletesWith (codes : List ErrCode) (s t : State) : Prop where
  err_mem : t.ctl.err ∈ codes
  eq_raise : t.ctl.err ≠ .ok → t = raise t.ctl.err s

namespace CompletesWith
variable {codes : List ErrCode} {s t : State}

theorem raise {e : ErrCode} (h : e ∈ codes) (s : State) : CompletesWith codes s (raise e s) := ⟨h, fun _ => rfl⟩

theorem of_ok (hok : .ok ∈ codes) (h : t.ctl.err = .ok) : CompletesWith codes s t := ⟨h ▸ hok, fun he => absurd h he⟩

end CompletesWith

section
variable (P : Params) (s : State)

theorem construct_completes :
    CompletesWith [.ok, .alreadyRunning, .badFraming, .badEncoding, .badCombination, .badConfig] s (construct s.params s) := by
  cases h : constructCheck s.params s with
  | error e =>
    rw [construct_of_error h]
    exact .raise (List.mem_cons_of_mem _ (constructCheck_error_mem h)) s
  | ok c => exact .of_ok (by decide) (by rw [construct_eq h])

theorem start_completes : CompletesWith [.ok, .notConstructed, .alreadyRunning] s (start s) := by
  unfold start
  split
  · exact .raise (by decide) s
  · split
    · exact .raise (by decide) s
    · exact .of_ok (by decide) rfl

theorem resetCommand_completes : CompletesWith [.ok, .notConstructed] s (resetCommand P s) := by
  unfold resetCommand
  split
  · exact .raise (by decide) s
  · exact .of_ok (by decide) rfl

theorem sample_completes (x : Sample) : CompletesWith [.ok, .notConstructed, .notRunning] s (sample P x s) := by
  unfold sample
  split
  · exact .raise (by decide) s
  · split
    · exact .raise (by decide) s
    · exact .of_ok (by decide) rfl

theorem construct_out : (construct P s).out = s.out := by
  cases h : constructCheck P s with
  | error e => rw [construct_of_error h, raise_frame]
  | ok c => rw [construct_eq h]

theorem start_out : (start s).out = s.out := by
  unfold start
  split
  · rfl
  · split <;> rfl

theorem resetCommand_out : (resetCommand P s).out = s.out := by
  unfold resetCommand
  split
  · rfl
  · rw [raise_frame, resetAll_frame]

end

/-- Settles O16, command by command; the reserved opcodes are all one case. -/
theorem commandResultCodes : Obligations.CommandResultCodes := by
  intro imm s t i codes hrow hexec
  have settled {t' : State} (h : exec i s = .next t') (hcodes : CompletesWith codes s t')
      (hout : i ≠ .sample imm → t'.out = s.out) : t.ctl.err ∈ codes
      ∧ (t.ctl.err ≠ .ok → t = { s with ctl := { s.ctl with err := t.ctl.err } })
      ∧ (i ≠ .sample imm → t.out = s.out) := by
    obtain rfl : t' = t := Host.Outcome.next.inj (h.symm.trans hexec)
    exact ⟨hcodes.err_mem, hcodes.eq_raise, hout⟩
  have reserved (h : exec i s = .next (raise .badCommand s)) (hcodes : codes = [.badCommand]) :=
    settled h (hcodes ▸ .raise (by decide) s) fun _ => rfl
  simp only [List.mem_cons, Prod.mk.injEq, List.not_mem_nil, or_false] at hrow
  obtain ⟨rfl, rfl⟩ | ⟨rfl, rfl⟩ | ⟨rfl, rfl⟩ | ⟨rfl, rfl⟩ | ⟨rfl, rfl⟩ | ⟨rfl, rfl⟩ | hrow := hrow
  · exact settled (exec_nop imm s) (.raise (by decide) s) fun _ => rfl
  · exact settled (exec_construct imm s) (construct_completes s) fun _ => construct_out s.params s
  · exact settled (exec_start imm s) (start_completes s) fun _ => start_out s
  · exact settled (exec_stop imm s) (.of_ok (by decide) rfl) fun _ => rfl
  · exact settled (exec_reset imm s) (resetCommand_completes s.params s) fun _ => resetCommand_out s.params s
  · exact settled (exec_sample imm s) (sample_completes s.params s imm) fun h => absurd rfl h
  · obtain ⟨rfl, hcodes⟩ | ⟨rfl, hcodes⟩ | ⟨rfl, hcodes⟩ | ⟨rfl, hcodes⟩ | ⟨rfl, hcodes⟩ | ⟨rfl, hcodes⟩ | ⟨rfl, hcodes⟩
      | ⟨rfl, hcodes⟩ | ⟨rfl, hcodes⟩ | ⟨rfl, hcodes⟩ := hrow
    all_goals exact reserved rfl hcodes

/-! ## A stopped block receives nothing (R304) -/

section
variable {s : State}

theorem receiveCode_stopped (P : Params) (n : Nat) (code : RawCode) (h : s.ctl.running = false) :
    receiveCode P n code s = s := by
  rw [receiveCode, h, Bool.and_false, if_neg (by decide)]

theorem exec_frameRow_stopped (spec : FramingSpec) (data : DataCode) (h : s.ctl.running = false) :
    exec (frameRow spec data) s = .next s := by
  rw [exec_frameRow, receiveFrame, receiveCode_stopped _ _ _ h]

theorem exec_decodeIta2_stopped (d : BitVec 5) (h : s.ctl.running = false) : exec (decodeIta2 d) s = .next s := by
  rw [exec_decodeIta2, ita2Word, codeWord_stopped _ _ s h]

theorem exec_decodeCcir476_stopped (d : BitVec 7) (h : s.ctl.running = false) :
    exec (decodeCcir476 d) s = .next s := by
  rw [exec_decodeCcir476, fecWord, codeWord_stopped _ _ s h]

theorem asciiWord_stopped (d : DataCode) (h : s.ctl.running = false) : asciiWord d s = s :=
  codeWord_stopped _ _ s h

theorem exec_asciiCode7_stopped (d : BitVec 7) (h : s.ctl.running = false) : exec (.asciiCode7 d) s = .next s :=
  congrArg Host.Outcome.next (asciiWord_stopped _ h)

theorem exec_asciiCode8_stopped (d : BitVec 8) (h : s.ctl.running = false) : exec (.asciiCode8 d) s = .next s :=
  congrArg Host.Outcome.next (asciiWord_stopped _ h)

/-- A word of a frame space or a code space, legal or not. -/
theorem runWord_stopped {sp : Space} {w : RawCode} (hsp : sp ≠ .command) (hw : w.toNat < 2 ^ sp.width)
    (h : s.ctl.running = false) : runWord sp w s = .next s := by
  cases sp with
  | command => exact absurd rfl hsp
  | frame spec =>
    have hdecode : decode (.frame spec) w = decodeFrame spec w := if_pos hw
    cases hdata : frameData spec w with
    | some data =>
      have legal : decode (.frame spec) w = .ok (frameRow spec data) := by rw [hdecode, decodeFrame, hdata]
      rw [runWord_of_decode legal, exec_frameRow_stopped spec data h]
    | none =>
      have illegal : decode (.frame spec) w = .error .illegalFrame := by rw [hdecode, decodeFrame, hdata]
      rw [runWord, illegal]
      exact congrArg Host.Outcome.next (receiveCode_stopped _ _ _ h)
  | ita2 => rw [runWord_of_decode (if_pos hw), exec_decodeIta2_stopped _ h]
  | ccir476 => rw [runWord_of_decode (if_pos hw), exec_decodeCcir476_stopped _ h]
  | ascii7 => rw [runWord_of_decode (if_pos hw), exec_asciiCode7_stopped _ h]
  | ascii8 => rw [runWord_of_decode (if_pos hw), exec_asciiCode8_stopped _ h]

end

/-- Settles O49: frames and code words are guarded by `ctl.running`, and a step runs one on the state it was taken from. -/
theorem stoppedBlockReceivesNoFrame : Obligations.StoppedBlockReceivesNoFrame := by
  intro s h
  refine ⟨fun spec data => exec_frameRow_stopped spec data h, fun d => exec_decodeIta2_stopped d h,
    fun d => exec_decodeCcir476_stopped d h, fun d => exec_asciiCode7_stopped d h, fun d => exec_asciiCode8_stopped d h,
    fun sp w rest hsp hw hinbox => ?_⟩
  rw [step_word hinbox, runWord_stopped (s := take rest s) hsp hw h]
  rfl

end Sys2Proof.Machine
end

section
/-! An accepted SAMPLE: the operations of a sample step in their order (R270), and the order and the bounds of its output
list (R272). -/

namespace Sys2Proof.Machine

/-! ## The operations in their order (R270) -/

theorem syncSql_bx (P : Params) (present : Bool) (s : State) : (syncSql P present s).bx = s.bx := by
  rw [syncSql_frame]

/-- SYNC.SQL leaves the pulse edge and the symbol bit of the bit extractor as it found them (R160). -/
theorem syncStep_eq (P : Params) (s : State) :
    let s' := syncSql P s.bx.signalPresent s
    syncStep P s = if s.bx.signalPresent && s.bx.pulseEdge then syncBit P s.bx.symBit s' else s' := by
  simp only [syncStep, syncSql_bx]

theorem extractBit_params (P : Params) (x : Sample) (s : State) : (extractBit P x s).params = s.params := by
  rw [extractBit_frame]

/-- Settles O15: the states between the operations are those that SAMPLE_STEP itself goes through. -/
theorem sampleRunsOperationsInOrder : Obligations.SampleRunsOperationsInOrder := by
  intro x s hc hr
  have beforeCorr : (bitxZc s.params (bitxAcc (bitxLevel s.params x (s.setOut [])))).params = s.params := by
    rw [bitxZc_frame]
    rfl
  have extracted := extractBit_params s.params x s
  have afterSql (present : Bool) : (syncSql s.params present (extractBit s.params x s)).params = s.params := by
    rw [syncSql_frame]
    exact extracted
  have ctl : (sampleStep s.params x s).ctl = s.ctl := by rw [sampleStep_frame]
  refine ⟨_, _, _, bitxCorr s.params _, extractBit s.params x s,
    syncSql s.params (extractBit s.params x s).bx.signalPresent (extractBit s.params x s),
    syncStep s.params (extractBit s.params x s), exec_bitxLevel x _, exec_bitxAcc _, exec_bitxZc _, ?_,
    exec_bitxDump _, ?_, ?_, rfl, ?_⟩
  · rw [exec_bitxCorr]
    exact congrArg (fun P => Host.Outcome.next (bitxCorr P _)) beforeCorr
  · rw [exec_syncSql, extracted]
  · rw [exec_syncBit, afterSql, syncStep_eq]
    split <;> rfl
  · rw [exec_sample_of_running x hc hr, raise_frame, ctl]
    rfl

/-! ## The events of one operation (R272) -/

/-- From `s` to `t` at most `n` characters were emitted, and after them at most one `State` event. -/
def EmitsAtMost (n : Nat) (s t : State) : Prop :=
  ∃ (cs : List Scalar) (st : List SyncState),
    t.out = s.out ++ cs.map .char ++ st.map .state ∧ cs.length ≤ n ∧ st.length ≤ 1

namespace EmitsAtMost
variable {n : Nat} {s t : State}

theorem silent (h : t.out = s.out) : EmitsAtMost n s t := ⟨[], [], by simp [h], Nat.zero_le n, Nat.zero_le 1⟩

theorem state {q : SyncState} (h : t.out = s.out ++ [.state q]) : EmitsAtMost n s t :=
  ⟨[], [q], by simp [h], Nat.zero_le n, Nat.le_refl 1⟩

theorem mono {m : Nat} (h : EmitsAtMost m s t) (hle : m ≤ n) : EmitsAtMost n s t := by
  obtain ⟨cs, st, hout, hcs, hst⟩ := h
  exact ⟨cs, st, hout, hcs.trans hle, hst⟩

end EmitsAtMost

section
variable {P : Params} {s : State}

theorem huntBit_emits (bit : Bool) (s : State) : EmitsAtMost 0 s (huntBit bit s) := by
  rw [huntBit_eq]
  split
  · exact .state rfl
  · exact .silent rfl

/-- A group that completes the acquisition emits what FLUSH makes of the recorded frames and of itself (R168, R169). -/
theorem confirmGroup_emits (P : Params) (s : State) : EmitsAtMost (s.sync.validCount + 1) s (confirmGroup P s) := by
  cases hvalid : decCheck s s.sync.code with
  | false =>
    rw [confirmGroup_invalid hvalid]
    exact .state rfl
  | true =>
    rw [confirmGroup_valid hvalid]
    split
    · obtain ⟨cs, hlen, hout⟩ := flushAll_out P
        ((recordGroup s).sync.recd.take (recordGroup s).sync.validCount) (recordGroup s)
      exact ⟨cs, [.steadyState], congrArg (· ++ [Event.state .steadyState]) hout,
        hlen.trans (List.length_take_le ..), Nat.le_refl 1⟩
    · exact .silent rfl

theorem confirmBit_emits (P : Params) (bit : Bool) (s : State) :
    EmitsAtMost (s.sync.validCount + 1) s (confirmBit P bit s) := by
  by_cases hfull : s.sync.bitCount + 1 = s.cfg.T
  · rw [confirmBit_completes hfull]
    exact confirmGroup_emits P (groupShift bit s)
  · rw [confirmBit_inside hfull]
    exact .silent rfl

theorem steadyGroup_emits (hr : s.sync.resync = false) (hs : s.sync.state = .steadyState)
    (hw : s.sync.waitSpace = false) : EmitsAtMost 1 s (steadyGroup P s) := by
  have same : SameDecoders s s := ⟨rfl, rfl, rfl, rfl⟩
  have group := steadyGroup_effect hr hs hw (same.decChar_eq (P := P) s.sync.code)
  extract_lets errCount forced at group
  rw [group]
  refine ⟨(decChar P s.sync.code s).2.1.toList, if forced then [.hunting] else [], ?_, ?_, ?_⟩
  · cases forced <;> rfl
  · cases (decChar P s.sync.code s).2.1 with
    | none => exact Nat.zero_le 1
    | some c => exact Nat.le_refl 1
  · cases forced <;> decide

theorem steadyBit_emits (hr : s.sync.resync = false) (hs : s.sync.state = .steadyState) (bit : Bool) :
    EmitsAtMost 1 s (steadyBit P bit s) := by
  cases hwait : s.sync.waitSpace && bit with
  | true =>
    rw [steadyBit, hwait, if_pos rfl]
    exact .silent rfl
  | false =>
    rw [steadyBit_enters hwait]
    dsimp only
    split
    · exact steadyGroup_emits (s := withGroup _ _ s) hr hs rfl
    · exact .silent rfl

/-- A symbol bit that finds the flag down decodes at most the recorded frames and one more (R169, R170). -/
theorem syncBit_emits (hr : s.sync.resync = false) (bit : Bool) :
    EmitsAtMost (s.sync.validCount + 1) s (syncBit P bit s) := by
  cases hs : s.sync.state with
  | noSignal =>
    rw [syncBit_noSignal hr hs]
    exact .silent rfl
  | hunting =>
    rw [syncBit_hunting hr hs]
    exact (huntBit_emits bit s).mono (Nat.zero_le _)
  | confirming =>
    rw [syncBit_confirming hr hs]
    exact confirmBit_emits P bit s
  | steadyState =>
    rw [syncBit_steady hr hs]
    exact (steadyBit_emits hr hs bit).mono (Nat.le_add_left 1 _)

/-- A symbol bit that finds the flag armed in Hunting emits nothing: the window starts anew with it, and one bit does not
fill a window (R163, R165). -/
theorem syncBit_armed_out (hr : s.sync.resync = true) (hs : s.sync.state = .hunting) (hT : 2 ≤ s.cfg.T) (bit : Bool) :
    (syncBit P bit s).out = s.out := by
  have consumed := consumeResync_of_armed hr
  rw [if_pos hs, decRst_frame] at consumed
  have state : (consumeResync s).sync.state = .hunting := by rw [consumed]
  have window : ¬min (consumeResync s).cfg.T ((consumeResync s).sync.fill + 1) = (consumeResync s).cfg.T := by
    rw [consumed]
    dsimp only
    omega
  rw [syncBit, state]
  dsimp only
  rw [huntBit_eq, if_neg fun h => window h.1, consumed]
  rfl

/-! ## The synchronizer's part of a sample step (R160) -/

theorem syncSql_emits (P : Params) (present : Bool) (s : State) : EmitsAtMost 0 s (syncSql P present s) := by
  obtain ⟨-, hout⟩ | ⟨-, -, -, hout⟩ | ⟨-, -, -, hout⟩ := syncSql_moves P present s
  · exact .silent hout
  · exact .state hout
  · exact .state hout

/-- When the signal returns, the `State` event of SYNC.SQL is the only event: the bit finds the flag armed (R161, R163). -/
theorem syncStep_emits (hw : WidthWf P s) (h : SyncWf s) (hT : 2 ≤ s.cfg.T) :
    EmitsAtMost P.confirmN s (syncStep P s) := by
  have room : s.sync.validCount + 1 ≤ P.confirmN := hw.params_eq ▸ h.valid_lt
  cases hbit : s.bx.signalPresent && s.bx.pulseEdge with
  | false =>
    rw [syncStep_eq, hbit, if_neg (by decide)]
    exact (syncSql_emits P _ s).mono (Nat.zero_le _)
  | true =>
    obtain ⟨hp, -⟩ := Bool.and_eq_true_iff.mp hbit
    rw [syncStep_eq, hbit, if_pos rfl, hp]
    by_cases hs : s.sync.state = .noSignal
    · have left : syncSql P true s = enterState .hunting s := if_pos hs
      rw [left]
      exact .state (syncBit_armed_out (s := enterState .hunting s) (h.noSignal_resync hs) rfl hT _)
    · have stays : syncSql P true s = s := if_neg hs
      rw [stays]
      cases hr : s.sync.resync with
      | false => exact (syncBit_emits hr _).mono room
      | true =>
        have hunting := (h.resync_state hr).resolve_left hs
        exact .silent (syncBit_armed_out hr hunting hT _)

/-! ## The output list (R272) -/

theorem extractBit_timingErrors (P : Params) (x : Sample) (s : State) :
    ∃ te : List Int, (extractBit P x s).out = te.map .timingError ∧ te.length ≤ 1 := by
  have before : (bitxZc P (bitxAcc (bitxLevel P x (s.setOut [])))).out = [] := by
    rw [bitxZc_frame]
    rfl
  rw [extractBit, bitxDump_frame]
  obtain h | ⟨off2, h⟩ := bitxCorr_out P (bitxZc P (bitxAcc (bitxLevel P x (s.setOut []))))
  · exact ⟨[], by rw [h, before]; rfl, Nat.zero_le 1⟩
  · exact ⟨[off2], by rw [h, before]; rfl, Nat.le_refl 1⟩

/-- No framing has a group of a single bit. -/
theorem ConfigWf.two_le_T {c : Latched} (h : ConfigWf P c) : 2 ≤ c.T := by
  obtain ⟨p, spec, enc, rfl, -, -⟩ := h
  show 2 ≤ (descriptorOf spec).totalBits
  rw [descriptorOf_totalBits]
  cases spec with
  | fourOfSeven => decide
  | async d st efr => cases d <;> cases st <;> cases efr <;> decide

end

/-- Settles O46: the bit extractor's timing error comes first, then what the synchronizer emits. -/
theorem outputListBounds : Obligations.OutputListBounds := by
  intro x s t hs hr hexec
  have hc := hs.running_constructed hr
  rw [exec_sample_of_running x hc hr] at hexec
  obtain rfl := Host.Outcome.next.inj hexec
  have params := extractBit_params s.params x s
  have cfg : (extractBit s.params x s).cfg = s.cfg := by rw [extractBit_frame]
  have wf : SyncWf (extractBit s.params x s) := by
    rw [extractBit_frame]
    exact { (hs.syncSound hc).sync with }
  obtain ⟨te, hte, hone⟩ := extractBit_timingErrors s.params x s
  obtain ⟨cs, st, hout, hcs, hst⟩ :=
    syncStep_emits ((hs.widthWf hc).congr params cfg) wf (cfg ▸ (hs.configWf hc).two_le_T)
  exact ⟨te, cs, st, hte ▸ hout, hone, hcs, hst⟩

end Sys2Proof.Machine
end

section
/-! The control flags under every instruction: CONSTRUCT, START and STOP move them as R299 says, and nothing else does. -/

namespace Sys2Proof.Machine

/-- The two flags of the lifecycle are the same; the result code may move (R290, R299). -/
structure KeepsFlags (s t : State) : Prop where
  constructed : t.ctl.constructed = s.ctl.constructed
  running : t.ctl.running = s.ctl.running

theorem KeepsFlags.of_ctl {s t : State} (h : t.ctl = s.ctl) : KeepsFlags s t :=
  ⟨congrArg Control.constructed h, congrArg Control.running h⟩

theorem raise_keepsFlags (e : ErrCode) (s : State) : KeepsFlags s (raise e s) := ⟨rfl, rfl⟩

/-! ## The three commands that move a flag -/

/-- CONSTRUCT passes its checks in a stopped block alone (R262). -/
theorem running_eq_false_of_constructCheck {P : Params} {s : State} {c : Latched} (h : constructCheck P s = .ok c) :
    s.ctl.running = false := by
  cases hrun : s.ctl.running with
  | false => rfl
  | true => cases (constructCheck_running hrun).symm.trans h

theorem construct_flags (P : Params) (s : State) : KeepsFlags s (construct P s)
    ∨ (s.ctl.running = false ∧ (construct P s).ctl.constructed = true ∧ (construct P s).ctl.running = false) := by
  cases h : constructCheck P s with
  | error e =>
    rw [construct_of_error h]
    exact .inl (raise_keepsFlags e s)
  | ok c =>
    rw [construct_eq h]
    exact .inr ⟨running_eq_false_of_constructCheck h, rfl, rfl⟩

theorem start_flags (s : State) : KeepsFlags s (start s)
    ∨ (s.ctl.constructed = true ∧ s.ctl.running = false
      ∧ (start s).ctl.constructed = true ∧ (start s).ctl.running = true) := by
  cases hc : s.ctl.constructed with
  | false =>
    rw [start_unconstructed hc]
    exact .inl (raise_keepsFlags _ s)
  | true =>
    cases hr : s.ctl.running with
    | true =>
      rw [start_running hc hr]
      exact .inl (raise_keepsFlags _ s)
    | false =>
      rw [start_stopped hc hr]
      exact .inr ⟨rfl, rfl, hc, rfl⟩

/-! ## The operations that leave the control group as it is -/

section
variable (P : Params) (s : State)

theorem bitxZc_ctl : (bitxZc P s).ctl = s.ctl := by rw [bitxZc_frame]

theorem bitxCorr_ctl : (bitxCorr P s).ctl = s.ctl := by rw [bitxCorr_frame]

theorem bitxDump_ctl : (bitxDump s).ctl = s.ctl := by rw [bitxDump_frame]

theorem syncSql_ctl (present : Bool) : (syncSql P present s).ctl = s.ctl := by rw [syncSql_frame]

theorem syncBit_ctl (bit : Bool) : (syncBit P bit s).ctl = s.ctl := by rw [syncBit_frame]

theorem decChar_ctl (code : RawCode) : (decChar P code s).1.ctl = s.ctl := by rw [decChar_frame]

theorem decRst_ctl : (decRst s).ctl = s.ctl := by rw [decRst_frame]

theorem fecChar_ctl (d : BitVec 7) : (fecChar P d s).1.ctl = s.ctl := by rw [fecChar_frame]

theorem ita2Char_ctl (d : BitVec 5) : (ita2Char P d s).1.ctl = s.ctl := by rw [ita2Char_frame]

theorem receiveCode_ctl (n : Nat) (code : RawCode) : (receiveCode P n code s).ctl = s.ctl := by rw [receiveCode_frame]

theorem resetAll_ctl : (resetAll P s).ctl = s.ctl := by rw [resetAll_frame]

theorem sampleStep_ctl (x : Sample) : (sampleStep P x s).ctl = s.ctl := by rw [sampleStep_frame]

end

/-! ## The instructions that move no flag -/

section
variable (P : Params) (s : State)

theorem resetCommand_keepsFlags : KeepsFlags s (resetCommand P s) := by
  unfold resetCommand
  split
  · exact raise_keepsFlags _ s
  · exact { KeepsFlags.of_ctl (resetAll_ctl P s) with }

theorem sample_keepsFlags (x : Sample) : KeepsFlags s (sample P x s) := by
  unfold sample
  split
  · exact raise_keepsFlags _ s
  · split
    · exact raise_keepsFlags _ s
    · exact { KeepsFlags.of_ctl (sampleStep_ctl P s x) with }

theorem receiveFrame_keepsFlags (spec : FramingSpec) (data : Nat) : KeepsFlags s (receiveFrame spec data s) :=
  .of_ctl (receiveCode_ctl ..)

variable {s}

theorem codeWord_keepsFlags {enc : Encoding} {call : State → State} (h : (call s).ctl = s.ctl) :
    KeepsFlags s (codeWord enc call s) := by
  unfold codeWord
  split
  · exact .of_ctl h
  · exact .of_ctl rfl

variable (s)

theorem fecWord_keepsFlags (d : BitVec 7) : KeepsFlags s (fecWord d s) := codeWord_keepsFlags (fecChar_ctl s.params s d)

theorem ita2Word_keepsFlags (d : BitVec 5) : KeepsFlags s (ita2Word d s) :=
  codeWord_keepsFlags (ita2Char_ctl s.params s d)

theorem asciiWord_keepsFlags (d : DataCode) : KeepsFlags s (asciiWord d s) := codeWord_keepsFlags rfl

end

/-- No instruction but CONSTRUCT, START and STOP moves a flag (R299). -/
theorem exec_keepsFlags {i : Instr} {s t : State} (h : exec i s = .next t) (hconstruct : ∀ imm, i ≠ .construct imm)
    (hstart : ∀ imm, i ≠ .start imm) (hstop : ∀ imm, i ≠ .stop imm) : KeepsFlags s t := by
  cases i with
  | construct imm => exact absurd rfl (hconstruct imm)
  | start imm => exact absurd rfl (hstart imm)
  | stop imm => exact absurd rfl (hstop imm)
  | reset _ => cases h; exact resetCommand_keepsFlags s.params s
  | sample x => cases h; exact sample_keepsFlags s.params s x
  | sampleStep x => cases h; exact .of_ctl (sampleStep_ctl s.params s x)
  | bitxZc => cases h; exact .of_ctl (bitxZc_ctl s.params s)
  | bitxCorr => cases h; exact .of_ctl (bitxCorr_ctl s.params s)
  | bitxDump => cases h; exact .of_ctl (bitxDump_ctl s)
  | syncSql present => cases h; exact .of_ctl (syncSql_ctl s.params s present)
  | syncBit bit => cases h; exact .of_ctl (syncBit_ctl s.params s bit)
  | decChar code => cases h; exact .of_ctl (decChar_ctl s.params s code)
  | decRst => cases h; exact .of_ctl (decRst_ctl s)
  | fecChar d => cases h; exact .of_ctl (fecChar_ctl s.params s d)
  | ita2Char d => cases h; exact .of_ctl (ita2Char_ctl s.params s d)
  | filtCfg | filtRst | filtRun | bitxLevel | bitxAcc | fecRst | ita2Rst | ascRst | frmParse | frmCheck
  | frmCheckDoubled | frmExtract | decCheck | fecCheck | ita2Check | ascCheck | ascChar | getNBits | getMsb =>
    -- these write one group or the returned value, and no control flag
    cases h
    exact .of_ctl rfl
  | _ =>
    -- the frames, the code words, NOP and the reserved opcodes
    cases h
    simp only [receiveFrame_keepsFlags, fecWord_keepsFlags, ita2Word_keepsFlags, asciiWord_keepsFlags, raise_keepsFlags]

/-- Settles O17, by the three commands that move a flag and `exec_keepsFlags` for every other instruction. -/
theorem lifecycleTransitions : Obligations.LifecycleTransitions := by
  intro i s t h
  cases i with
  | construct imm =>
    obtain rfl := Host.Outcome.next.inj ((exec_construct imm s).symm.trans h)
    obtain kept | moved := construct_flags s.params s
    · exact .inl ⟨kept.constructed, kept.running⟩
    · exact .inr (.inl ⟨imm, rfl, moved⟩)
  | start imm =>
    obtain rfl := Host.Outcome.next.inj ((exec_start imm s).symm.trans h)
    obtain kept | moved := start_flags s
    · exact .inl ⟨kept.constructed, kept.running⟩
    · exact .inr (.inr (.inl ⟨imm, rfl, moved⟩))
  | stop imm =>
    obtain rfl := Host.Outcome.next.inj ((exec_stop imm s).symm.trans h)
    exact .inr (.inr (.inr ⟨imm, rfl, rfl, rfl⟩))
  | _ =>
    have kept := exec_keepsFlags h nofun nofun nofun
    exact .inl ⟨kept.constructed, kept.running⟩

end Sys2Proof.Machine
end
